-- ==== Sys2Proof/Word.lean ====
section
/-! DEFINITION. The bit-level types of the FG32: line groups, nibbles and the check register. -/

namespace Sys2Proof

/-- One group of five line bits, first bit sent first (R120); the first bit is the most significant. -/
abbrev Group := BitVec 5

/-- The value of a data symbol (R120). -/
abbrev Nibble := BitVec 4

/-- The 16-bit check register (R122). -/
abbrev Check := BitVec 16

end Sys2Proof
end

