-- ==== Sys2Proof/Syntax.lean ====
section
/-! DEFINITION. The commands of the FG32: one constructor for each row of spec/opcode_table.json. -/

namespace Sys2Proof

/-- The twelve keys of the keypad (R173). -/
inductive Key where
  | digit (d : Nat)
  | clear
  | enter
deriving DecidableEq, Repr

/-- The levels of the thirteen strap pins (R188). -/
structure Straps where
  station    : BitVec 5
  lockers    : BitVec 2
  capacity   : BitVec 3
  weight     : BitVec 2
  commission : Bool
deriving DecidableEq, Repr

/-- The steps of the table. `locker` is a locker index. A frame's fields are as received, in the order
of R125, with `src` the source station.

The verbs (`load` to `unknownVerb`) have no operand: the processor takes them from its own inbox (R149),
where the arriving COMMAND left their operands (log 17). -/
inductive Instr where
  /-- R191: a power-on reset with the strap pins at these levels. -/
  | powerOnReset (straps : Straps)
  /-- R158: the warm restart. -/
  | warmRestart
  /-- R27, R172: a locker's first reading, with its first probe sample. -/
  | firstSweepReading (locker : Nat) (doorOpen trayPresent : Bool) (raw : Nat)
  /-- R29: a probe sample of a locker. -/
  | probeSample (locker raw : Nat)
  /-- R13, R14, R9: a debounced door opening. -/
  | doorOpened (locker : Nat)
  /-- R17: a debounced door close. -/
  | doorClosed (locker : Nat)
  /-- R24: a debounced tray appearance. -/
  | trayAppeared (locker : Nat)
  /-- R24: a debounced tray removal. -/
  | trayRemoved (locker : Nat)
  /-- R16: the ajar timer reaches 120 s. -/
  | ajar (locker : Nat)
  /-- R12: the open wait reaches 2 s. -/
  | openWaitExpired (locker : Nat)
  /-- R166: the pulse in progress reaches 300 ms. -/
  | pulseEnded
  /-- R186: the second tick. -/
  | secondTick
  /-- R186: the minute tick. -/
  | minuteTick
  /-- R186: the flash phase turns dark. -/
  | flashPhase
  /-- R183: a lamp frame ends with its strobe and the next begins. -/
  | lampFrame
  /-- R185: the lamp-test timer reaches 0. -/
  | lampTestEnd
  /-- R86: the share tick. -/
  | shareTick
  /-- R63: the grant round. -/
  | grantRound
  /-- R76: an accepted DEMAND frame. -/
  | demand (src seq d f k w a : Nat) (trip isolated commission : Bool)
  /-- R101: an accepted OFFER frame. -/
  | offer (src order cls collectBy digits : Nat)
  /-- R106: an accepted BID frame. -/
  | bid (src order score locker : Nat)
  /-- R107: an accepted CLAIM frame. -/
  | claim (src order score locker : Nat) (loaded : Bool)
  /-- R117: an accepted RESIGN frame. -/
  | resign (src order locker : Nat)
  /-- R111: the window of the entry for this order ends. -/
  | windowEnd (order : Nat)
  /-- R187: an accepted TIME frame. -/
  | time (src minute second : Nat)
  /-- R57: an accepted SHED frame. -/
  | shed (src mask : Nat)
  /-- R140: an accepted NOTICE frame of another station. -/
  | notice (src locker event reason order : Nat) (lapse : Bool)
  /-- R140: an accepted REPLY frame of another station. -/
  | reply (src verb outcome reason locker state : Nat) (data : List Nat)
  /-- R123, R124: a received frame is discarded. -/
  | frameDiscarded
  /-- R142: a frame bears the own station number as its source. -/
  | addressClash
  /-- R147: an accepted COMMAND frame; `dest` is the own station number or 31, `ops` the nine operand bytes. -/
  | command (src dest verb : Nat) (ops : List Nat)
  /-- R151: the processor takes LOAD. -/
  | load
  /-- R152: the processor takes VOID. -/
  | void
  /-- R153: the processor takes CLEAR. -/
  | clear
  /-- R154: the processor takes BLOCK. -/
  | block
  /-- R154: the processor takes UNBLOCK. -/
  | unblock
  /-- R155: the processor takes QUERY of a locker. -/
  | query
  /-- R156: the processor takes QUERY of locker 0. -/
  | queryBank
  /-- R157: the processor takes LAMPTEST. -/
  | lampTest
  /-- R158: the processor takes RESTART. -/
  | restart
  /-- R159: the processor takes CLASS. -/
  | classWrite
  /-- R150: the processor takes a command of unknown verb. -/
  | unknownVerb
  /-- R159: the store write completes. -/
  | classWriteEnd
  /-- R134: the transmitter begins an attempt. -/
  | attemptStart
  /-- R135: the attempt's SHUT-2 reads back equal. -/
  | transmissionComplete
  /-- R136: the BREAK that follows a wrong read-back has gone out. -/
  | collision
  /-- R127: the line monitor becomes SETTLED. -/
  | lineSettled
  /-- R128: the station becomes in step. -/
  | inStep
  /-- R127: the activity count reaches 400. -/
  | jabber
  /-- R129: LINE FAULT becomes asserted. -/
  | lossOfStep
  /-- R129: LINE FAULT clears. -/
  | lineFaultCleared
  /-- R190: FEEDER TRIP settles as asserted. -/
  | feederTripAsserted
  /-- R190: FEEDER TRIP settles as clear. -/
  | feederTripCleared
  /-- R190: SUPPLY LOW settles as asserted. -/
  | supplyLowAsserted
  /-- R190, R167: SUPPLY LOW settles as clear. -/
  | supplyLowCleared
  /-- R173, R174: a digit key is accepted. -/
  | digitKey (d : Nat)
  /-- R173, R174: the CLEAR key is accepted. -/
  | clearKey
  /-- R173, R176: the ENTER key is accepted. -/
  | enterKey
  /-- R173: two keys read down together. -/
  | keyReject (first second : Key)
  /-- R173: all keys have read up for 20 ms. -/
  | keysReleased
  /-- R175: the entry timer reaches 10 s. -/
  | entryTimeout
  /-- R179: the oldest strike reaches 60 s. -/
  | strikeAgedOut
  /-- R180: the lockout timer reaches 30 s. -/
  | lockoutEnd
  /-- R178: the beeper pattern ends. -/
  | beeperPatternEnd
  /-- R127: a symbol other than QUIET is read while the monitor is SETTLED. -/
  | lineActive
deriving DecidableEq, Repr

end Sys2Proof
end

