-- ==== Sys2Proof/Decode.lean ====
section
/-! DEFINITION. The command that a word spells by the table's bits. -/

namespace Sys2Proof

/-- No row of spec/opcode_table.json has bits ("fields" is empty in all 65), so no word spells a command.
The encodings the spec does give, those of the line's symbols and frames (R120 to R126), are in
Machine/Operands.lean. -/
def decodeTableWord (_nbits _w : Nat) : Option Instr := none

end Sys2Proof
end

