-- ==== Sys2Proof/Config.lean ====
section
/-! DEFINITION. What the part fixes: durations, capacities, and the one free value of the model. -/

namespace Sys2Proof.Config

/-- Time is counted in symbol times of 10 µs (R120); this many make a millisecond. -/
def ticksPerMs : Nat := 100

/-- A duration in milliseconds, in symbol times. -/
def ms (n : Nat) : Nat := n * ticksPerMs

/-- A duration in seconds, in symbol times. -/
def sec (n : Nat) : Nat := n * (1000 * ticksPerMs)

/-- R166: a latch pulse runs for 300 ms. -/
def pulseTime : Nat := ms 300
/-- R12: the open wait expires at 2 s. -/
def openWaitTime : Nat := sec 2
/-- R16: the AJAR notice is given at 120 s. -/
def ajarTime : Nat := sec 120
/-- R170: a door or tray change settles in 50 ms. -/
def inputSettleTime : Nat := ms 50
/-- R173: a key settles, and all keys release, in 20 ms. -/
def keySettleTime : Nat := ms 20
/-- R175: the entry timer runs for 10 s. -/
def entryTime : Nat := sec 10
/-- R179: a strike leaves the list at the age of 60 s. -/
def strikeTime : Nat := sec 60
/-- R180: a lockout lasts 30 s. -/
def lockoutTime : Nat := sec 30
/-- R99: a bid window ends 400 ms after the OFFER. -/
def windowTime : Nat := ms 400
/-- R159: a class store write lasts 20 ms. -/
def writeTime : Nat := ms 20
/-- R86: the share tick comes every 250 ms. -/
def sharePeriod : Nat := ms 250
/-- R62: the grant round comes every second. -/
def grantPeriod : Nat := sec 1
/-- R86, R186: how far the share tick's period has run as the divider starts. The rules say only that the share tick is
not aligned with the second tick or the grant round (DESIGN CHOICE, log 13). -/
def shareOffset : Nat := ms 100
/-- R62, R186: the same of the grant round (DESIGN CHOICE, log 13). -/
def grantOffset : Nat := ms 700
/-- R183: a lamp frame with its strobe lasts exactly 1 ms. -/
def lampPeriod : Nat := ms 1
/-- R190: FEEDER TRIP is asserted after 10 ms and cleared after 1 s. -/
def tripAssertTime : Nat := ms 10
/-- R190: see `tripAssertTime`. -/
def tripClearTime : Nat := sec 1
/-- R190: SUPPLY LOW is asserted after 2 ms and cleared after 200 ms. -/
def supplyAssertTime : Nat := ms 2
/-- R190: see `supplyAssertTime`. -/
def supplyClearTime : Nat := ms 200

/-- R130: capacity of the reply list. -/
def replyCapacity : Nat := 4
/-- R131: capacity of the order list. -/
def orderCapacity : Nat := 12
/-- R133: capacity of the notice list. -/
def noticeCapacity : Nat := 16
/-- R146: capacity of the command inbox. -/
def inboxCapacity : Nat := 4
/-- R99: capacity of the Order Book. -/
def bookCapacity : Nat := 8
/-- R75: capacity of the Peer Table. -/
def peerCapacity : Nat := 30
/-- R137: a frame is given up at its eighth attempt. -/
def attemptLimit : Nat := 8
/-- R127, R128: QUIET symbols that settle the monitor and bring the station in step. -/
def quietLimit : Nat := 32
/-- R127: activity count at which the line is jabbering. -/
def jabberLimit : Nat := 400
/-- 00_scope 4, R59: the rating of one locker heater in HU. -/
def heaterRating : Nat := 8
/-- R50: the cutout code, 95.0 °C. -/
def cutout : Nat := 190

/-- Free value (log 4). Orders the events that fall due at one moment. The manual lets either of two such
events be taken first (R41, R47, R70, R97, R98, R141, R169, R182) and gives no rule for the choice. -/
opaque tieBreak : Nat → Nat

end Sys2Proof.Config
end

