-- ==== Sys2Proof/Machine/State.lean ====
section
/-! DEFINITION. The state of the FG32: one structure for each block of 00_scope.md 2.2, as plain data, and the
state after power-on reset. Every timer counts symbol times of 10 µs (log 1); `none` is a stopped timer. -/

namespace Sys2Proof.Machine

/-! ### Line symbols and frames (chapter 6) -/

/-- What one group of five line bits reads as (R120). -/
inductive Sym where
  | data (v : Nibble)
  | quiet
  | open1
  | open2
  | shut1
  | shut2
  | brk
  | invalid
deriving DecidableEq, Repr

/-- The notice events of R26. -/
inductive NoticeEvent where
  | loaded | ready | collected | returned | lapsed | cancelled | retired | cleared | fault | ajar
deriving DecidableEq, Repr

/-- R7: why a record is RETIRED. -/
inductive RetireReason where
  | expired | cold | voided | unknown
deriving DecidableEq, Repr

/-- R8: why a record is in FAULT. -/
inductive FaultReason where
  | probe | latch | forced | tray
deriving DecidableEq, Repr

/-- R26: the reason a notice carries. -/
inductive NoticeReason where
  | none
  | retire (r : RetireReason)
  | fault (r : FaultReason)
deriving DecidableEq, Repr

/-- R26: a NOTICE frame as it waits in the notice list. -/
structure NoticeFrame where
  locker : Nat
  event  : NoticeEvent
  reason : NoticeReason
  order  : Nat
  lapse  : Bool
deriving DecidableEq, Repr

/-- R95: a DEMAND frame as it waits in the slot. -/
structure DemandFrame where
  seq        : Nat
  d          : Nat
  f          : Nat
  k          : Nat
  w          : Nat
  a          : Nat
  trip       : Bool
  isolated   : Bool
  commission : Bool
deriving DecidableEq, Repr

/-- The body of a frame of the order list (R131). -/
inductive OrderBody where
  | bid (score locker : Nat)
  | claim (score locker : Nat) (loaded : Bool)
  | resign (locker : Nat)
deriving DecidableEq, Repr

/-- A frame of the order list: its order number and its body (R131). -/
structure OrderFrame where
  order : Nat
  body  : OrderBody
deriving DecidableEq, Repr

/-- R126: the outcome of a REPLY. -/
inductive ReplyOutcome where
  | accept | busy | refuse
deriving DecidableEq, Repr

/-- R126, R150: the reason of a REPLY. -/
inductive ReplyReason where
  | none | unknownOrder | wrongState | noSuchLocker | badValue | superseded | notInService | notCommissioning
deriving DecidableEq, Repr

/-- R150: a REPLY frame. `state` is the code of R126, `data` the seven data bytes of R125. -/
structure ReplyFrame where
  dest    : Nat
  verb    : Nat
  outcome : ReplyOutcome
  reason  : ReplyReason
  locker  : Nat
  state   : Nat
  data    : List Nat
deriving DecidableEq, Repr

/-- A frame in a transmit list with its attempt count (6.5). -/
structure Queued (α : Type) where
  frame    : α
  attempts : Nat
deriving DecidableEq, Repr

/-- The four transmit lists of 6.5. -/
inductive ListKind where
  | reply | order | demand | notice
deriving DecidableEq, Repr

/-- The receiver of R123. `echo` records that the own transmitter had an attempt on the wire when the
frame's OPEN-1 arrived (R124). -/
inductive Rx where
  | hunting
  | opened (echo : Bool)
  | frame (nibbles : List Nibble) (shut1 : Bool) (echo : Bool)
deriving DecidableEq, Repr

/-- R135, R136: the attempt on the wire: the list it serves, the symbols still to be sent, and whether a
collision was read so that the BREAK goes out next. `settles` is cleared where the BREAK settles no line monitor: it met
a SETTLED one, or was not read as a BREAK (R127). -/
structure Attempt where
  list     : ListKind
  symbols  : List Sym
  breaking : Bool
  settles  : Bool
deriving DecidableEq, Repr

/-- The Line Interface (chapter 6). `demandSent` says that a fall out of step met a DEMAND whose SHUT-2 had been read
back, and whose report is still to be taken (R84, log 32). -/
structure Line where
  inStep        : Bool
  inStepCount   : Nat
  lineFault     : Bool
  active        : Bool
  accessCount   : Nat
  activityCount : Nat
  quietRun      : Nat
  lastShut1     : Bool
  rx            : Rx
  replies       : List (Queued ReplyFrame)
  orders        : List (Queued OrderFrame)
  orderNext     : Option OrderFrame
  demand        : Option (Queued DemandFrame)
  demandNext    : Option DemandFrame
  demandSent    : Bool
  notices       : List (Queued NoticeFrame)
  wire          : Option Attempt
  extraWait     : Nat
  backoff       : BitVec 8
  listenOnly    : Bool
deriving DecidableEq, Repr

/-! ### Class table and Timebase (chapters 2 and 10) -/

/-- R34: the seven figures of a set class entry. -/
structure ClassEntry where
  target    : Nat
  floor     : Nat
  longest   : Nat
  coldLimit : Nat
  grace     : Nat
  keepOn    : Nat
  keepOff   : Nat
deriving DecidableEq, Repr

/-- The Timebase and Class Store (chapter 10). An entry that is `none` is UNSET, or blank in the store. -/
structure Timebase where
  clock        : Option Nat
  second       : Nat
  divider      : Nat
  flashLit     : Bool
  classes      : List (Option ClassEntry)
  store        : List (Option ClassEntry)
  feederTrip   : Bool
  tripSettle   : Option Nat
  supplyLow    : Bool
  supplySettle : Option Nat
deriving DecidableEq, Repr

/-! ### Locker Table (chapters 1, 2, 3 and 8) -/

/-- The eight life-cycle states (1.2). -/
inductive LockerState where
  | vacant | reserved | loading | holding | releasing | retired | blocked | fault
deriving DecidableEq, Repr

/-- R52: the heating phase. -/
inductive Phase where
  | raise | keep
deriving DecidableEq, Repr

/-- 1.3: the progress of one latch release and door opening. -/
inductive DoorCycle where
  | none | queued | pulsing | awaitOpen | opened
deriving DecidableEq, Repr

/-- R3: the order part of a record. -/
structure OrderPart where
  order     : Nat
  cls       : Nat
  collectBy : Nat
  digits    : Nat
  score     : Nat
deriving DecidableEq, Repr

/-- R2, R30, R49, R170: a locker record, with the fields other blocks keep for the same locker. -/
structure Locker where
  swept        : Bool
  state        : LockerState
  phase        : Phase
  order        : Option OrderPart
  voidPending  : Bool
  retireReason : Option RetireReason
  faultReason  : Option FaultReason
  cycle        : DoorCycle
  attempts     : Nat
  openWait     : Option Nat
  ajar         : Option Nat
  ajarGiven    : Bool
  ready        : Bool
  cold         : Nat
  holdAge      : Nat
  keepOn       : Bool
  keepCount    : Nat
  temp         : Nat
  seeded       : Bool
  faultRun     : Nat
  doorOpen     : Bool
  trayPresent  : Bool
  doorSettle   : Option Nat
  traySettle   : Option Nat
  level        : Nat
deriving DecidableEq, Repr

/-- R27, R30, R55, R170: a record after power-on reset. -/
def Locker.init : Locker where
  swept        := false
  state        := .vacant
  phase        := .raise
  order        := none
  voidPending  := false
  retireReason := none
  faultReason  := none
  cycle        := .none
  attempts     := 0
  openWait     := none
  ajar         := none
  ajarGiven    := false
  ready        := false
  cold         := 0
  holdAge      := 0
  keepOn       := true
  keepCount    := 0
  temp         := 0
  seeded       := false
  faultRun     := 0
  doorOpen     := false
  trayPresent  := false
  doorSettle   := none
  traySettle   := none
  level        := 0

/-! ### The other blocks -/

/-- R162: the pulse in progress. -/
structure Pulse where
  locker : Nat
  time   : Nat
deriving DecidableEq, Repr

/-- The Latch Driver (chapter 8). -/
structure Latch where
  queue : List Nat
  pulse : Option Pulse
deriving DecidableEq, Repr

/-- R173: the scan states. -/
inductive ScanState where
  | up | down | reject
deriving DecidableEq, Repr

/-- R178: the beeper patterns. -/
inductive Beep where
  | ack | accept | wait | alert | lockout
deriving DecidableEq, Repr

/-- R178: a pattern that is sounding and the time it has sounded. -/
structure Sounding where
  pattern : Beep
  time    : Nat
deriving DecidableEq, Repr

/-- The Keypad Unit (chapter 9). -/
structure Keypad where
  scan       : ScanState
  scanKey    : Option Key
  settle     : Option Nat
  buffer     : List Nat
  overlong   : Bool
  entryTimer : Option Nat
  strikes    : List Nat
  lockout    : Option Nat
  beeper     : Option Sounding
deriving DecidableEq, Repr

/-- R100: a score with a station number. -/
structure ScorePair where
  score   : Nat
  station : Nat
deriving DecidableEq, Repr

/-- R99: an open entry of the Order Book. `window` is the time run since the OFFER's arrival. -/
structure BookEntry where
  order     : Nat
  cls       : Nat
  collectBy : Nat
  digits    : Nat
  score     : Nat
  candidate : Nat
  rival     : Option ScorePair
  window    : Nat
deriving DecidableEq, Repr

/-- R75: an entry of the Peer Table. -/
structure Peer where
  station : Nat
  lastSeq : Nat
  d       : Nat
  f       : Nat
  k       : Nat
  w       : Nat
  lastA   : Nat
  trip    : Bool
  silence : Nat
  stale   : Bool
deriving DecidableEq, Repr

/-- 4.3: the share states. -/
inductive ShareState where
  | isolated | joining | sharing
deriving DecidableEq, Repr

/-- The Share Unit (chapter 4). `peers` is kept sorted by station (log 26). -/
structure Share where
  peers     : List Peer
  state     : ShareState
  joinCount : Nat
  unsentRun : Nat
  sentMark  : Bool
  allowance : Nat
  seq       : Nat
  peerTrip  : Bool
  wallOver  : Bool
  cadence   : Nat
deriving DecidableEq, Repr

/-- The Grant Controller (chapter 3). `pointers` holds the pointers of the levels 1 to 7 in that order. -/
structure Grant where
  mask     : Nat
  list     : List Nat
  pointers : List Nat
  cadence  : Nat
deriving DecidableEq, Repr

/-- R146: a COMMAND frame as the inbox holds it. -/
structure CommandFrame where
  src  : Nat
  dest : Nat
  verb : Nat
  ops  : List Nat
deriving DecidableEq, Repr

/-- R159: a store write in progress, with the command's source and destination and the time run. -/
structure ClassWrite where
  index : Nat
  entry : ClassEntry
  src   : Nat
  dest  : Nat
  time  : Nat
deriving DecidableEq, Repr

/-- R149: the processor states. -/
inductive Proc where
  | free
  | writing (w : ClassWrite)
  | restarting
deriving DecidableEq, Repr

/-- The Command Inbox and Processor (chapter 7). -/
structure Cip where
  inbox : List CommandFrame
  proc  : Proc
deriving DecidableEq, Repr

/-- R183: the three elements of one lamp position. -/
structure Lamp where
  red   : Bool
  green : Bool
  amber : Bool
deriving DecidableEq, Repr

/-- A dark position. -/
def Lamp.off : Lamp := ⟨false, false, false⟩

/-- The Lamp Chain (R183, R185): the frame being shifted, what the chain's outputs hold, and the test. -/
structure LampChain where
  test    : Option Nat
  frame   : List Lamp
  shown   : List Lamp
  cadence : Nat
deriving DecidableEq, Repr

/-- The levels at one locker position's inputs: door switch, tray sensor and probe code (R29, R170). -/
structure LockerPins where
  doorOpen    : Bool
  trayPresent : Bool
  probe       : Nat
deriving DecidableEq, Repr

/-- The input pins. `line` holds the groups the line will read in the coming symbol times; when it is
empty the line reads what the own transmitter drives (log 16). -/
structure Pins where
  lockers    : List LockerPins
  keys       : List Key
  feederTrip : Bool
  supplyLow  : Bool
  line       : List Group
deriving DecidableEq, Repr

/-- The whole part. `pending` is the queue of commands that wait. Two fields are the model's own: `owed`, the
steps that the last symbol time has brought and that are still to be queued (log 1), and `ties`, the counter for
the free value `Config.tieBreak` (log 4); a third is `Line.demandSent` (log 32). -/
structure State where
  straps  : Straps
  time    : Timebase
  lockers : List Locker
  scanAt  : Nat
  latch   : Latch
  keypad  : Keypad
  book    : List BookEntry
  share   : Share
  grant   : Grant
  line    : Line
  cip     : Cip
  lamp    : LampChain
  pins    : Pins
  owed    : List (List Instr)
  ties    : Nat
  pending : List Instr
deriving DecidableEq, Repr

/-- The part has no condition that stops it, so no step ends in a fault. (A record in FAULT is a life-cycle
state, R8.) -/
inductive Fault
deriving DecidableEq, Repr

/-- Why a command has no meaning. -/
inductive Refusal where
  /-- Raised by an arm of `exec` for a row not modelled yet. Safe: the machine stops. No arm raises it. -/
  | notModelled (mnemonic : String)
deriving DecidableEq, Repr

/-! ### Power-on values -/

/-- R1, R188: the locker count N of the strap code. -/
def lockerCount (p : Straps) : Nat := 8 * (p.lockers.toNat + 1)

/-- R162: the Latch Driver after power-on reset. -/
def Latch.init : Latch := ⟨[], none⟩

/-- R181: the Keypad Unit after power-on reset. -/
def Keypad.init : Keypad where
  scan       := .up
  scanKey    := none
  settle     := none
  buffer     := []
  overlong   := false
  entryTimer := none
  strikes    := []
  lockout    := none
  beeper     := none

/-- R75, R80, R81: the Share Unit after power-on reset; its tick is not aligned with the second tick (R86, R186). -/
def Share.init : Share where
  peers     := []
  state     := .isolated
  joinCount := 0
  unsentRun := 0
  sentMark  := true
  allowance := 0
  seq       := 0
  peerTrip  := false
  wallOver  := false
  cadence   := Config.shareOffset

/-- R57, R60, R61: the Grant Controller after power-on reset; its round is not aligned with the second tick (R186). -/
def Grant.init : Grant := ⟨0, [], List.replicate 7 0, Config.grantOffset⟩

/-- R144: the Line Interface after power-on reset, with LINE FAULT as the transceiver drives it. -/
def Line.init (station : BitVec 5) (lineFault : Bool) : Line where
  inStep        := false
  inStepCount   := 0
  lineFault     := lineFault
  active        := false
  accessCount   := 0
  activityCount := 0
  quietRun      := 0
  lastShut1     := false
  rx            := .hunting
  replies       := []
  orders        := []
  orderNext     := none
  demand        := none
  demandNext    := none
  demandSent    := false
  notices       := []
  wire          := none
  extraWait     := 0
  backoff       := station.setWidth 8
  listenOnly    := station == 31

/-- R146, R149: the CIP after power-on reset. -/
def Cip.init : Cip := ⟨[], .free⟩

/-- A lamp frame of all zeros (R183). -/
def Lamp.darkFrame : List Lamp := List.replicate 33 Lamp.off

/-- R183, R185: the Lamp Chain after power-on reset; `shown` is the chain's own and no reset reaches it. -/
def LampChain.init (shown : List Lamp) : LampChain := ⟨none, Lamp.darkFrame, shown, 0⟩

/-- R186, R189, R190: the Timebase after power-on reset, the class table loaded from the store. -/
def Timebase.init (store : List (Option ClassEntry)) : Timebase where
  clock        := none
  second       := 0
  divider      := 0
  flashLit     := false
  classes      := store
  store        := store
  feederTrip   := false
  tripSettle   := none
  supplyLow    := false
  supplySettle := none

/-- The outside's levels at `State.reset` (DESIGN CHOICE, log 6): doors shut, no trays, 20.0 °C, no key down,
both sources normal, a quiet line. -/
def Pins.atRest : Pins where
  lockers    := List.replicate 32 ⟨false, false, 40⟩
  keys       := []
  feederTrip := false
  supplyLow  := false
  line       := []

/-- R189: the store as the part leaves the factory, every entry blank. -/
def Timebase.blankStore : List (Option ClassEntry) := List.replicate 8 none

/-- All straps at 0: station 0, N = 8, C = 240, W = 1, not in COMMISSION (DESIGN CHOICE, log 5). -/
def zeroStraps : Straps := ⟨0, 0, 0, 0, false⟩

/-- R191: the part right after a power-on reset with the straps at 0 and a factory-blank class store. -/
def State.reset : State where
  straps  := zeroStraps
  time    := Timebase.init Timebase.blankStore
  lockers := List.replicate (lockerCount zeroStraps) Locker.init
  scanAt  := 0
  latch   := Latch.init
  keypad  := Keypad.init
  book    := []
  share   := Share.init
  grant   := Grant.init
  line    := Line.init zeroStraps.station false
  cip     := Cip.init
  lamp    := LampChain.init Lamp.darkFrame
  pins    := Pins.atRest
  owed    := []
  ties    := 0
  pending := []

end Sys2Proof.Machine
end

