-- ==== Sys2Proof/Machine/Operands.lean ====
section
/-! DEFINITION. How operands travel: the symbols, the check, the frame envelope, the body layouts and the codes of
chapter 6 (R120 to R126). -/

namespace Sys2Proof.Machine

/-! ### Symbols (R120) -/

/-- R120: what each of the 32 groups reads as. -/
def Sym.ofGroup (g : Group) : Sym :=
  match g.toNat with
  | 0b00000 => .quiet
  | 0b00101 => .shut1
  | 0b00111 => .data 9
  | 0b01001 => .open1
  | 0b01010 => .open2
  | 0b01011 => .data 5
  | 0b01101 => .data 6
  | 0b01110 => .data 7
  | 0b01111 => .data 13
  | 0b10010 => .data 15
  | 0b10011 => .data 0
  | 0b10100 => .shut2
  | 0b10101 => .data 1
  | 0b10110 => .data 2
  | 0b10111 => .data 10
  | 0b11001 => .data 3
  | 0b11010 => .data 4
  | 0b11011 => .data 11
  | 0b11100 => .data 8
  | 0b11101 => .data 12
  | 0b11110 => .data 14
  | 0b11111 => .brk
  | _ => .invalid

/-- R120: the group that carries a data value. -/
def dataGroup (v : Nibble) : Group :=
  match v.toNat with
  | 0 => 0b10011
  | 1 => 0b10101
  | 2 => 0b10110
  | 3 => 0b11001
  | 4 => 0b11010
  | 5 => 0b01011
  | 6 => 0b01101
  | 7 => 0b01110
  | 8 => 0b11100
  | 9 => 0b00111
  | 10 => 0b10111
  | 11 => 0b11011
  | 12 => 0b11101
  | 13 => 0b01111
  | 14 => 0b11110
  | _ => 0b10010

/-- R120: the group of a symbol; ten groups read as `invalid`, so it has no one group, and it is never sent. -/
def Sym.group : Sym → Option Group
  | .data v => some (dataGroup v)
  | .quiet => some 0b00000
  | .open1 => some 0b01001
  | .open2 => some 0b01010
  | .shut1 => some 0b00101
  | .shut2 => some 0b10100
  | .brk => some 0b11111
  | .invalid => none

/-- R120: a byte is two data symbols, high nibble first. -/
def byteSyms (n : Nat) : List Sym := [.data (BitVec.ofNat 4 (n / 16)), .data (BitVec.ofNat 4 n)]

/-- R120, R123: data symbols collected two at a time into bytes. -/
def bytesOf : List Nibble → List Nat
  | h :: l :: rest => (h.toNat * 16 + l.toNat) :: bytesOf rest
  | _ => []

/-! ### The check (R122) -/

/-- R122 step 2 for one bit. -/
def checkBit (r : Check) (b : Bool) : Check := if r.msb != b then (r <<< 1) ^^^ 0x1021#16 else r <<< 1

/-- R122 step 2 for one byte, most significant bit first. -/
def checkByte (r : Check) (n : Nat) : Check := [7, 6, 5, 4, 3, 2, 1, 0].foldl (fun r k => checkBit r (n.testBit k)) r

/-- R122: the check over the kind, source, destination and body bytes. -/
def checkOf (bytes : List Nat) : Check := bytes.foldl checkByte 0xFFFF#16

/-- R121: the two check bytes, high byte first. -/
def checkBytes (bytes : List Nat) : List Nat := [(checkOf bytes).toNat / 256, (checkOf bytes).toNat % 256]

/-! ### The envelope (R121, R125) -/

/-- R121: the symbols of a frame, from the bytes of kind, source, destination and body. -/
def frameSymbols (bytes : List Nat) : List Sym :=
  [.open1, .open2] ++ (bytes ++ checkBytes bytes).flatMap byteSyms ++ [.shut1, .shut2]

/-- A number as two bytes, high byte first (6.3). -/
def bytes16 (n : Nat) : List Nat := [n / 256 % 256, n % 256]

/-- A number as three bytes, high byte first (6.3). -/
def bytes24 (n : Nat) : List Nat := [n / 65536 % 256, n / 256 % 256, n % 256]

/-- A flag as one bit of a flags byte (6.3). -/
def flagBit (b : Bool) (k : Nat) : Nat := if b then 2 ^ k else 0

/-- R125: the body length of each known kind. -/
def bodyLength : Nat → Option Nat
  | 1 => some 11
  | 2 => some 7
  | 3 => some 6
  | 4 => some 7
  | 5 => some 4
  | 6 => some 7
  | 7 => some 10
  | 8 => some 12
  | 9 => some 3
  | 10 => some 1
  | _ => none

/-! ### Codes (R126) -/

/-- R126: the code of a notice event. -/
def NoticeEvent.code : NoticeEvent → Nat
  | .loaded => 1
  | .ready => 2
  | .collected => 3
  | .returned => 4
  | .lapsed => 5
  | .cancelled => 6
  | .retired => 7
  | .cleared => 8
  | .fault => 9
  | .ajar => 10

/-- R126: the code of a notice reason. -/
def NoticeReason.code : NoticeReason → Nat
  | .none => 0
  | .retire .expired => 1
  | .retire .cold => 2
  | .retire .voided => 3
  | .retire .unknown => 4
  | .fault .probe => 1
  | .fault .latch => 2
  | .fault .forced => 3
  | .fault .tray => 4

/-- R126: the code of a reply outcome. -/
def ReplyOutcome.code : ReplyOutcome → Nat
  | .accept => 0
  | .busy => 1
  | .refuse => 2

/-- R126: the code of a reply reason. -/
def ReplyReason.code : ReplyReason → Nat
  | .none => 0
  | .unknownOrder => 1
  | .wrongState => 2
  | .noSuchLocker => 3
  | .badValue => 4
  | .superseded => 5
  | .notInService => 6
  | .notCommissioning => 7

/-- R126: the code of a record's state in a REPLY. -/
def LockerState.code : LockerState → Nat
  | .vacant => 0
  | .reserved => 1
  | .loading => 2
  | .holding => 3
  | .releasing => 4
  | .retired => 5
  | .blocked => 6
  | .fault => 7

/-- R125: the share state in bits 0 and 1 of data byte 10. -/
def ShareState.code : ShareState → Nat
  | .isolated => 0
  | .joining => 1
  | .sharing => 2

/-- R126: the verb codes. -/
def verbLoad : Nat := 1
/-- R126. -/
def verbVoid : Nat := 2
/-- R126. -/
def verbClear : Nat := 3
/-- R126. -/
def verbBlock : Nat := 4
/-- R126. -/
def verbUnblock : Nat := 5
/-- R126. -/
def verbQuery : Nat := 6
/-- R126. -/
def verbLampTest : Nat := 7
/-- R126. -/
def verbRestart : Nat := 8
/-- R126. -/
def verbClass : Nat := 9

/-! ### Bodies the FG32 sends (R125) -/

/-- A frame without its source: kind, destination and body. -/
structure OutFrame where
  kind : Nat
  dest : Nat
  body : List Nat
deriving DecidableEq, Repr

/-- R125: the body of a DEMAND, addressed to 31 (R121). -/
def DemandFrame.out (f : DemandFrame) : OutFrame where
  kind := 1
  dest := 31
  body := [f.seq % 256] ++ bytes16 f.d ++ bytes16 f.f ++ bytes16 f.k ++ [f.w % 256] ++ bytes16 f.a ++
    [flagBit f.trip 0 + flagBit f.isolated 1 + flagBit f.commission 2]

/-- R125: the body of a BID, CLAIM or RESIGN, addressed to 31 (R121). -/
def OrderFrame.out (f : OrderFrame) : OutFrame :=
  match f.body with
  | .bid score locker => ⟨3, 31, bytes24 f.order ++ bytes16 score ++ [locker % 256]⟩
  | .claim score locker loaded => ⟨4, 31, bytes24 f.order ++ bytes16 score ++ [locker % 256, flagBit loaded 0]⟩
  | .resign locker => ⟨5, 31, bytes24 f.order ++ [locker % 256]⟩

/-- R125: the body of a NOTICE, addressed to 31 (R121, R26). -/
def NoticeFrame.out (f : NoticeFrame) : OutFrame where
  kind := 6
  dest := 31
  body := [f.locker % 256, f.event.code, f.reason.code] ++ bytes24 f.order ++ [flagBit f.lapse 0]

/-- R125: the body of a REPLY, addressed to the source of the command it answers (R121). -/
def ReplyFrame.out (f : ReplyFrame) : OutFrame where
  kind := 8
  dest := f.dest
  body := [f.verb % 256, f.outcome.code, f.reason.code, f.locker % 256, f.state % 256] ++ f.data.map (· % 256)

/-- R121: the bytes the check covers, for a frame of the station `own`. -/
def OutFrame.bytes (f : OutFrame) (own : Nat) : List Nat := f.kind :: own :: f.dest :: f.body

/-! ### Bodies the FG32 reads (R125, R140) -/

/-- The two-byte number at position `k` of a body. -/
def word16At (body : List Nat) (k : Nat) : Nat := body.getD k 0 * 256 + body.getD (k + 1) 0

/-- The three-byte number at position `k` of a body. -/
def word24At (body : List Nat) (k : Nat) : Nat :=
  body.getD k 0 * 65536 + body.getD (k + 1) 0 * 256 + body.getD (k + 2) 0

/-- R125, R140: the command that an accepted frame of a known kind delivers. -/
def deliveryOf (kind src dest : Nat) (body : List Nat) : Option Instr :=
  match kind with
  | 1 => some (.demand src (body.getD 0 0) (word16At body 1) (word16At body 3) (word16At body 5) (body.getD 7 0)
      (word16At body 8) ((body.getD 10 0).testBit 0) ((body.getD 10 0).testBit 1) ((body.getD 10 0).testBit 2))
  | 2 => some (.offer src (word24At body 0) (body.getD 3 0) (word16At body 4) (body.getD 6 0))
  | 3 => some (.bid src (word24At body 0) (word16At body 3) (body.getD 5 0))
  | 4 => some (.claim src (word24At body 0) (word16At body 3) (body.getD 5 0) ((body.getD 6 0).testBit 0))
  | 5 => some (.resign src (word24At body 0) (body.getD 3 0))
  | 6 => some (.notice src (body.getD 0 0) (body.getD 1 0) (body.getD 2 0) (word24At body 3) ((body.getD 6 0).testBit 0))
  | 7 => some (.command src dest (body.getD 0 0) (body.drop 1))
  | 8 => some (.reply src (body.getD 0 0) (body.getD 1 0) (body.getD 2 0) (body.getD 3 0) (body.getD 4 0) (body.drop 5))
  | 9 => some (.time src (word16At body 0) (body.getD 2 0))
  | 10 => some (.shed src (body.getD 0 0))
  | _ => none

/-- What the tests of R123 and the filters of R124 make of a complete frame. -/
inductive Verdict where
  /-- R123, R124: no trace. -/
  | discarded
  /-- R124 step 1: the station's own frame read back. -/
  | ownEcho
  /-- R124 step 3. -/
  | clash
  /-- R124, R140: delivered as this command. -/
  | delivered (c : Instr)
deriving DecidableEq, Repr

/-- R123: the tests of a complete frame: even, at least five bytes, a known kind, its length, a good check.
Answers the bytes before the check. -/
def checkedBytes (nibbles : List Nibble) : Option (List Nat) :=
  let bytes := bytesOf nibbles
  let front := bytes.take (bytes.length - 2)
  if nibbles.length % 2 = 0 ∧ 5 ≤ bytes.length ∧ bodyLength (front.getD 0 0) = some (front.length - 3) ∧
      bytes.drop (bytes.length - 2) = checkBytes front then some front else none

/-- R123, R124: the judgement of a complete frame at the station `own`. -/
def judgeFrame (own : Nat) (nibbles : List Nibble) (echo : Bool) : Verdict :=
  match checkedBytes nibbles with
  | none => .discarded
  | some front =>
    let src := front.getD 1 0
    let dest := front.getD 2 0
    if echo then .ownEcho
    else if 30 < src then .discarded
    else if src = own then .clash
    else if dest ≠ own ∧ dest ≠ 31 then .discarded
    else match deliveryOf (front.getD 0 0) src dest (front.drop 3) with
      | some c => .delivered c
      | none => .discarded

/-- What one symbol makes of the receiver (R123). -/
inductive RxEvent where
  /-- Nothing to report. -/
  | none
  /-- R123: the frame inside is discarded. -/
  | discarded
  /-- R123: SHUT-1 SHUT-2 ends the frame; it is then judged. -/
  | complete (nibbles : List Nibble) (echo : Bool)
deriving DecidableEq, Repr

/-- R123: a 35th data symbol makes a frame longer than the longest kind. -/
def nibbleLimit : Nat := 34

/-- R123: the receiver takes one symbol. `onWire` says that the own transmitter has an attempt on the wire
as the symbol arrives. -/
def rxStep (rx : Rx) (sym : Sym) (onWire : Bool) : Rx × RxEvent :=
  match rx with
  | .hunting => if sym = .open1 then (.opened onWire, .none) else (.hunting, .none)
  | .opened echo =>
    if sym = .open2 then (.frame [] false echo, .none)
    else if sym = .open1 then (.opened onWire, .none)
    else (.hunting, .none)
  | .frame nibbles false echo =>
    match sym with
    | .data v => if nibbles.length < nibbleLimit then (.frame (nibbles ++ [v]) false echo, .none) else (.hunting, .discarded)
    | .shut1 => (.frame nibbles true echo, .none)
    | .open1 => (.opened onWire, .discarded)
    | _ => (.hunting, .discarded)
  | .frame nibbles true echo =>
    match sym with
    | .shut2 => (.hunting, .complete nibbles echo)
    | .open1 => (.opened onWire, .discarded)
    | _ => (.hunting, .discarded)

end Sys2Proof.Machine
end

