-- ==== Sys2Proof/Machine/Flags.lean ====
section
/-! DEFINITION. Figures and indications computed from the state: capacity figures, the minute-of-day judgement, heat
levels, demand, floor and ceiling, candidates, scores, lamp patterns and the output pins. -/

namespace Sys2Proof.Machine

/-! ### Straps and capacity figures (R1, R73, R74, R188) -/

/-- R1: the locker count N. -/
def State.count (s : State) : Nat := s.lockers.length

/-- R188: the own station number. -/
def State.own (s : State) : Nat := s.straps.station.toNat

/-- R74: the bank weight W. -/
def State.weight (s : State) : Nat := s.straps.weight.toNat + 1

/-- R73: the feeder capacity of a strap code. -/
def capacityOf : Nat → Nat
  | 0 => 240
  | 1 => 360
  | 2 => 480
  | 3 => 600
  | 4 => 720
  | 5 => 960
  | 6 => 1200
  | _ => 1440

/-- R73: the feeder capacity C. -/
def State.capacity (s : State) : Nat := capacityOf s.straps.capacity.toNat

/-- R73: the usable capacity U = C − g, with g = floor(C / 16). -/
def State.usable (s : State) : Nat := s.capacity - s.capacity / 16

/-- R73: the ramp r = floor(C / 32). -/
def State.ramp (s : State) : Nat := s.capacity / 32

/-- R73: the isolated share I = floor(U / 16). -/
def State.isolatedShare (s : State) : Nat := s.usable / 16

/-! ### Records -/

/-- R1: the record of a locker index; an index outside 1..N reaches none. -/
def State.locker? (s : State) (i : Nat) : Option Locker := if i = 0 then none else s.lockers[i - 1]?

/-- R1: the indices 1..N in ascending order. -/
def State.indices (s : State) : List Nat := (List.range s.count).map (· + 1)

/-- R3: whether a record holds the order number. -/
def Locker.holds (r : Locker) (order : Nat) : Bool :=
  match r.order with
  | some o => o.order == order
  | none => false

/-- R3: the index of the record that holds the order number, by R3 at most one. -/
def State.holder? (s : State) (order : Nat) : Option Nat :=
  s.indices.find? fun i => match s.locker? i with
    | some r => r.holds order
    | none => false

/-- R26: the order number a notice carries, 0 when the order part is absent. -/
def Locker.orderNumber (r : Locker) : Nat :=
  match r.order with
  | some o => o.order
  | none => 0

/-- R114: whether a record that holds an order is past RESERVED. -/
def LockerState.pastReserved : LockerState → Bool
  | .loading | .holding | .releasing | .retired | .fault => true
  | .vacant | .reserved | .blocked => false

/-- R34, R35: the class entry a class index names, absent while UNSET. -/
def classAt (classes : List (Option ClassEntry)) (cls : Nat) : Option ClassEntry := classes.getD cls none

/-- R35: the class figures of a record's order, absent without an order. -/
def Locker.figures (r : Locker) (classes : List (Option ClassEntry)) : Option ClassEntry :=
  match r.order with
  | some o => classAt classes o.cls
  | none => none

/-! ### Minutes of the day (R42 to R44) -/

/-- R42: (t − now) mod 1440. -/
def minutesAhead (now t : Nat) : Nat := (((t : Int) - (now : Int)) % 1440).toNat

/-- R42, R44: t is in the future; no minute is while the clock is UNSET. -/
def isFuture (clock : Option Nat) (t : Nat) : Bool :=
  match clock with
  | none => false
  | some now => decide (1 ≤ minutesAhead now t ∧ minutesAhead now t ≤ 720)

/-- R42, R44: t is due; no minute is while the clock is UNSET. -/
def isDue (clock : Option Nat) (t : Nat) : Bool :=
  match clock with
  | none => false
  | some now => !decide (1 ≤ minutesAhead now t ∧ minutesAhead now t ≤ 720)

/-- R43: the minutes to collect-by, m. -/
def minutesToCollect (clock : Option Nat) (t : Nat) : Nat :=
  match clock with
  | none => 720
  | some now => if isFuture clock t then minutesAhead now t else 0

/-- R46: the expiry minute of a meal. -/
def expiryMinute (o : OrderPart) (c : ClassEntry) : Nat := (o.collectBy + c.grace) % 1440

/-! ### Heat levels (R49 to R53, R58, R59) -/

/-- The states in which a phase counts and a heater may run (R50, R52). -/
def LockerState.heats : LockerState → Bool
  | .reserved | .holding | .releasing => true
  | .vacant | .loading | .retired | .blocked | .fault => false

/-- R50: the conditions that force level 0. -/
def Locker.forcedOff (r : Locker) (commission : Bool) : Bool :=
  r.doorOpen || !r.state.heats || decide (Config.cutout ≤ r.temp) || commission

/-- R51: the level table, for a record to which no forcing condition applies. -/
def tableLevel (r : Locker) (c : ClassEntry) (m : Nat) : Nat :=
  match r.phase with
  | .keep => if r.keepOn then 1 else 0
  | .raise =>
    if r.state = .reserved then if m ≤ 10 then 3 else 2
    else if r.temp < c.floor then if c.coldLimit / 2 ≤ r.cold then 7 else 6
    else if m ≤ 5 then 5 else 4

/-- R50, R51: the heat level of a record whose phase is up to date. -/
def Locker.levelNow (r : Locker) (classes : List (Option ClassEntry)) (clock : Option Nat) (commission : Bool) : Nat :=
  if r.forcedOff commission then 0 else
    match r.order, r.figures classes with
    | some o, some c => tableLevel r c (minutesToCollect clock o.collectBy)
    | _, _ => 0

/-- R53: the phase becomes KEEP. -/
def Locker.enterKeep (r : Locker) : Locker := { r with phase := .keep, keepOn := true, keepCount := 0 }

/-- R52: the phase is judged. -/
def Locker.judgePhase (r : Locker) (classes : List (Option ClassEntry)) : Locker :=
  if r.state.heats then
    match r.figures classes with
    | none => r
    | some c =>
      match r.phase with
      | .raise => if c.target ≤ r.temp then r.enterKeep else r
      | .keep => if r.temp + 2 < c.target then { r with phase := .raise } else r
  else r

/-- R49: a recomputation: the phase first, then the level. -/
def Locker.recomputed (r : Locker) (classes : List (Option ClassEntry)) (clock : Option Nat) (commission : Bool) : Locker :=
  { r.judgePhase classes with level := (r.judgePhase classes).levelNow classes clock commission }

/-- R58: the lowest level of a candidate. -/
def State.leastLevel (s : State) : Nat := max 1 s.grant.mask

/-- R58, R59: how many lockers have at least this level. -/
def State.countAtLeast (s : State) (level : Nat) : Nat := s.lockers.countP fun r => decide (level ≤ r.level)

/-- R59: own demand D. -/
def State.demandHU (s : State) : Nat :=
  if s.straps.commission then 0 else Config.heaterRating * s.countAtLeast s.leastLevel

/-- R59: own floor Fb. -/
def State.floorHU (s : State) : Nat :=
  if s.straps.commission then 0 else Config.heaterRating * s.countAtLeast (max 6 s.grant.mask)

/-- R59: own ceiling K. -/
def State.ceilingHU (s : State) : Nat := if s.straps.commission then 0 else Config.heaterRating * s.count

/-- R65, R69, R93: FEEDER TRIP or SUPPLY LOW is asserted. -/
def State.tripped (s : State) : Bool := s.time.feederTrip || s.time.supplyLow

/-- R62: the slot count of a grant round. -/
def State.slotCount (s : State) : Nat := min s.count (s.share.allowance / Config.heaterRating)

/-! ### Orders (R100, R103, R104) -/

/-- R100: one pair beats another. -/
def ScorePair.beats (p q : ScorePair) : Bool :=
  decide (q.score < p.score) || (p.score == q.score && decide (p.station < q.station))

/-- R99: the open entry for an order number. -/
def State.entry? (s : State) (order : Nat) : Option BookEntry := s.book.find? fun e => e.order == order

/-- R103: the locker is the candidate of an open entry. -/
def State.isCandidate (s : State) (i : Nat) : Bool := s.book.any fun e => e.candidate == i

/-- R103: the record qualifies as a candidate locker. -/
def State.qualifies (s : State) (i : Nat) : Bool :=
  match s.locker? i with
  | none => false
  | some r => r.swept && r.state == .vacant && r.cycle == .none && r.faultRun == 0 && !s.isCandidate i

/-- R5: the Locker Controller takes a reserve request for this locker and order. -/
def State.reservable (s : State) (i order : Nat) : Bool :=
  match s.locker? i with
  | none => false
  | some r => r.swept && r.state == .vacant && r.cycle == .none && (s.holder? order).isNone

/-- The smoothed temperature of a locker index, 0 outside 1..N. -/
def State.tempAt (s : State) (i : Nat) : Nat :=
  match s.locker? i with
  | none => 0
  | some r => r.temp

/-- R103: the first index of the highest temperature in a list of indices. -/
def State.warmest (s : State) : List Nat → Option Nat
  | [] => none
  | i :: rest =>
    match s.warmest rest with
    | none => some i
    | some j => if s.tempAt j ≤ s.tempAt i then some i else some j

/-- R103: the candidate locker of a new entry. -/
def State.candidate? (s : State) : Option Nat := s.warmest (s.indices.filter s.qualifies)

/-- R104: v, the VACANT records that are no entry's candidate. -/
def State.freeRoom (s : State) : Nat :=
  (s.indices.filter fun i => match s.locker? i with
    | some r => r.state == .vacant && !s.isCandidate i
    | none => false).length

/-- R104: h, the whole heaters' worth of unspent allowance, up to 9. -/
def State.headroom (s : State) : Nat := min 9 ((s.share.allowance - s.demandHU) / Config.heaterRating)

/-- R104: the score of a new entry with this candidate and class. -/
def State.score (s : State) (candidate cls : Nat) : Nat :=
  100 * s.freeRoom + 10 * s.headroom +
    5 * (match classAt s.time.classes cls with
      | some c => if c.floor ≤ s.tempAt candidate then 1 else 0
      | none => 0)

/-- R102: every condition for a bid but the candidate locker's. -/
def State.mayBid (s : State) (cls collectBy : Nat) : Bool :=
  s.share.state != .isolated && !s.straps.commission && s.time.clock.isSome && (classAt s.time.classes cls).isSome &&
    isFuture s.time.clock collectBy && decide (s.book.length < Config.bookCapacity)

/-- R101: an OFFER is malformed. -/
def malformedOffer (order cls collectBy digits : Nat) : Bool :=
  order == 0 || decide (999999 < order) || decide (7 < cls) || decide (1439 < collectBy) || decide (99 < digits)

/-! ### Access to the line (R134) -/

/-- R134: the frame next in line, with its list and its class gap. -/
def Line.nextInLine (l : Line) : Option (ListKind × Nat × OutFrame) :=
  match l.replies, l.orders, l.demand, l.notices with
  | q :: _, _, _, _ => some (.reply, 8, q.frame.out)
  | [], q :: _, _, _ => some (.order, 8, q.frame.out)
  | [], [], some q, _ => some (.demand, 16, q.frame.out)
  | [], [], none, q :: _ => some (.notice, 24, q.frame.out)
  | [], [], none, [] => none

/-- R134: the threshold of a frame with this class gap. -/
def State.threshold (s : State) (gap : Nat) : Nat := gap + 2 * s.own + s.line.extraWait

/-- R134: the conditions for an attempt but the access count's. -/
def State.maySend (s : State) : Bool := s.line.inStep && !s.line.listenOnly && s.line.wire.isNone && !s.line.active

/-- R136: the next content of the backoff register. -/
def nextBackoff (b : BitVec 8) : BitVec 8 :=
  (b <<< 1) ||| (BitVec.ofBool !(b.getLsbD 7 ^^ b.getLsbD 5 ^^ b.getLsbD 4 ^^ b.getLsbD 3)).setWidth 8

/-! ### Lamps (R183 to R185) -/

/-- R183: the pattern of a locker position, with the flash phase. -/
def Locker.lamp (r : Locker) (lit : Bool) : Lamp :=
  match r.state with
  | .vacant => Lamp.off
  | .reserved | .loading => ⟨false, false, true⟩
  | .holding => if r.ready then ⟨false, true, false⟩ else ⟨false, false, true⟩
  | .releasing => ⟨false, lit, false⟩
  | .retired | .blocked => ⟨true, false, false⟩
  | .fault => ⟨lit, false, false⟩

/-- R184: the station lamp, by the first row whose condition holds. -/
def State.stationLamp (s : State) : Lamp :=
  if s.line.listenOnly then ⟨s.time.flashLit, false, false⟩
  else if s.straps.commission then ⟨true, false, false⟩
  else if s.tripped then ⟨false, false, true⟩
  else if s.share.state = .sharing then ⟨false, true, false⟩
  else ⟨false, false, s.time.flashLit⟩

/-- R183: the lamp of a locker position 1..32; positions above N are off. -/
def State.positionLamp (s : State) (i : Nat) : Lamp :=
  match s.locker? i with
  | some r => r.lamp s.time.flashLit
  | none => Lamp.off

/-- R183, R185: the lamp frame built from the state as it stands. -/
def State.buildFrame (s : State) : List Lamp :=
  match s.lamp.test with
  | some _ => List.replicate 33 ⟨true, true, true⟩
  | none => ((List.range 32).map fun k => s.positionLamp (k + 1)) ++ [s.stationLamp]

/-- R183: the bits of a frame in the order they are sent: red, green and amber of each position. -/
def frameBits (frame : List Lamp) : List Bool := frame.flatMap fun p => [p.red, p.green, p.amber]

/-! ### Output pins (10.7) -/

/-- R71: heater output i. -/
def State.heaterOut (s : State) (i : Nat) : Bool := s.grant.list.contains i

/-- R162: the solenoid supply. -/
def State.latchSupply (s : State) : Bool := s.latch.pulse.isSome

/-- R162: latch select line i. -/
def State.latchSelect (s : State) (i : Nat) : Bool :=
  match s.latch.pulse with
  | some p => p.locker == i
  | none => false

/-- R178: the length of a pattern. -/
def Beep.length : Beep → Nat
  | .ack => Config.ms 100
  | .accept => Config.ms 300
  | .wait => Config.ms 500
  | .alert => Config.ms 1100
  | .lockout => Config.ms 500

/-- R178: whether a pattern sounds its tone at a time from its start. -/
def Beep.tone (b : Beep) (t : Nat) : Bool :=
  match b with
  | .ack | .wait => decide (t < b.length)
  | .accept | .lockout => decide (t < b.length) && t / Config.ms 100 % 2 == 0
  | .alert => decide (t < Config.ms 500) || (decide (Config.ms 600 ≤ t) && decide (t < b.length))

/-- R178: the beeper output. -/
def State.beepOut (s : State) : Bool :=
  match s.keypad.beeper with
  | some b => b.pattern.tone b.time
  | none => false

/-- R120, R135, R136: the symbol the transmitter drives in the coming symbol time; none when it does not drive. -/
def Line.driven (l : Line) : Option Sym :=
  match l.wire with
  | none => none
  | some a => if a.breaking then some .brk else a.symbols.head?

/-- R120, 10.7: the line bits the transmitter drives in the coming symbol time, first bit first. -/
def State.lineOut (s : State) : Option Group := s.line.driven.bind Sym.group

/-- R183, 10.7: LAMP DATA at the present bit of the frame; the strobe follows the 99th bit. The rule gives no level of LAMP
DATA in the 10 µs of the strobe: that it is low there is the model's choice (DESIGN CHOICE, log 12). -/
def State.lampData (s : State) : Bool := (frameBits s.lamp.frame).getD s.lamp.cadence false

/-- R183, 10.7: LAMP STROBE, in the 10 µs that follow the 99th bit. -/
def State.lampStrobe (s : State) : Bool := s.lamp.cadence == 99

end Sys2Proof.Machine
end

