-- ==== Sys2Proof/Machine/Ops.lean ====
section
/-! DEFINITION. The shared operations: updates of one block, the records' entries into VACANT, RETIRED and FAULT, notices,
transmit lists, the latch queue, recomputations, isolation, the warm restart and the loss of step. -/

namespace Sys2Proof.Machine

/-! ### Updates of one block -/

/-- Replace the Timebase. -/
def State.withTime (s : State) (x : Timebase) : State := { s with time := x }
/-- Replace the Locker Table. -/
def State.withLockers (s : State) (x : List Locker) : State := { s with lockers := x }
/-- Replace the Latch Driver. -/
def State.withLatch (s : State) (x : Latch) : State := { s with latch := x }
/-- Replace the Keypad Unit. -/
def State.withKeypad (s : State) (x : Keypad) : State := { s with keypad := x }
/-- Replace the Order Book. -/
def State.withBook (s : State) (x : List BookEntry) : State := { s with book := x }
/-- Replace the Share Unit. -/
def State.withShare (s : State) (x : Share) : State := { s with share := x }
/-- Replace the Grant Controller. -/
def State.withGrant (s : State) (x : Grant) : State := { s with grant := x }
/-- Replace the Line Interface. -/
def State.withLine (s : State) (x : Line) : State := { s with line := x }
/-- Replace the CIP. -/
def State.withCip (s : State) (x : Cip) : State := { s with cip := x }
/-- Replace the Lamp Chain. -/
def State.withLamp (s : State) (x : LampChain) : State := { s with lamp := x }
/-- Replace the input pins. -/
def State.withPins (s : State) (x : Pins) : State := { s with pins := x }

/-- Change one record; an index outside 1..N reaches none (R1). -/
def State.modLocker (s : State) (i : Nat) (f : Locker → Locker) : State :=
  if i = 0 then s else s.withLockers (s.lockers.modify (i - 1) f)

/-- Change the levels at one locker position's inputs. -/
def State.modPins (s : State) (i : Nat) (f : LockerPins → LockerPins) : State :=
  if i = 0 then s else s.withPins { s.pins with lockers := s.pins.lockers.modify (i - 1) f }

/-- Take the records in ascending index order. -/
def State.forEach (s : State) (f : State → Nat → State) : State := s.indices.foldl f s

/-! ### Transmit lists (R130 to R133, R138) -/

/-- R135: an attempt of this list is on the wire. -/
def Line.sending (l : Line) (k : ListKind) : Bool :=
  match l.wire with
  | some a => a.list == k
  | none => false

/-- R129, R143: replies and order frames are discarded on arrival. -/
def Line.mute (l : Line) : Bool := !l.inStep || l.listenOnly

/-- R133: the notice list without its oldest notice that is not on the wire. -/
def Line.noticesDropped (l : Line) : List (Queued NoticeFrame) :=
  if l.sending .notice then l.notices.take 1 ++ l.notices.drop 2 else l.notices.drop 1

/-- R133: a notice is handed to the notice list. -/
def Line.pushNotice (l : Line) (f : NoticeFrame) : Line :=
  if l.notices.length < Config.noticeCapacity then
    { l with notices := l.notices ++ [⟨{ f with lapse := false }, 0⟩] }
  else
    { l with notices := l.noticesDropped ++ [⟨{ f with lapse := true }, 0⟩] }

/-- R131, R138: a frame is handed to the order list. -/
def Line.handOrder (l : Line) (f : OrderFrame) : Line :=
  if l.mute then l
  else if l.orders.any fun q => q.frame.order == f.order then
    if l.sending .order && (l.orders.head?.map fun q => q.frame.order) == some f.order then
      { l with orderNext := some f }
    else
      { l with orders := l.orders.map fun q => if q.frame.order = f.order then ⟨f, 0⟩ else q }
  else if l.orders.length < Config.orderCapacity then { l with orders := l.orders ++ [⟨f, 0⟩] }
  else l

/-- R132, R138: the DEMAND slot is refilled. -/
def Line.refillDemand (l : Line) (f : DemandFrame) : Line :=
  if l.sending .demand then { l with demandNext := some f } else { l with demand := some ⟨f, 0⟩ }

/-- R138: the DEMAND slot after an attempt has ended early: the pending replacement takes the place. -/
def Line.demandKept (l : Line) : Option (Queued DemandFrame) :=
  match l.demandNext with
  | some f => some ⟨f, 0⟩
  | none => l.demand

/-- R138: the order list after the frame at its head has left: a pending replacement takes the place. -/
def Line.ordersAfterHead (l : Line) : List (Queued OrderFrame) :=
  match l.orderNext with
  | some f => ⟨f, 0⟩ :: l.orders.drop 1
  | none => l.orders.drop 1

/-- R138: the DEMAND slot after its frame has left. -/
def Line.demandAfter (l : Line) : Option (Queued DemandFrame) := l.demandNext.map fun f => ⟨f, 0⟩

/-- R135: the Line Interface once the frame on the wire has been sent: it leaves its list, and the extra wait is 0. -/
def Line.sent (l : Line) (k : ListKind) : Line :=
  let l := { l with wire := none, extraWait := 0 }
  match k with
  | .reply => { l with replies := l.replies.drop 1 }
  | .order => { l with orders := l.ordersAfterHead, orderNext := none }
  | .demand => { l with demand := l.demandAfter, demandNext := none }
  | .notice => { l with notices := l.notices.drop 1 }

/-- R127: the monitor becomes SETTLED. -/
def Line.settle (l : Line) : Line := { l with active := false, accessCount := 0, quietRun := 0 }

/-- R26: a rule queues a notice. -/
def State.notify (s : State) (locker : Nat) (event : NoticeEvent) (reason : NoticeReason) (order : Nat) : State :=
  s.withLine (s.line.pushNotice ⟨locker, event, reason, order, false⟩)

/-- The Order Book hands a frame to the order list. -/
def State.handOrder (s : State) (f : OrderFrame) : State := s.withLine (s.line.handOrder f)

/-- R114: the Order Book hands the CLAIM of a held order. -/
def State.reassert (s : State) (i : Nat) : State :=
  match s.locker? i with
  | none => s
  | some r =>
    match r.order with
    | none => s
    | some o => s.handOrder ⟨o.order, .claim o.score i r.state.pastReserved⟩

/-! ### Heat levels and the grant list (R49, R66) -/

/-- R49, R66: the level of a record is recomputed; a listed locker whose level becomes 0 leaves the list. -/
def State.recompute (s : State) (i : Nat) : State :=
  match s.locker? i with
  | none => s
  | some r =>
    let r' := r.recomputed s.time.classes s.time.clock s.straps.commission
    let s' := s.modLocker i fun _ => r'
    if r'.level = 0 then s'.withGrant { s'.grant with list := s'.grant.list.filter (· != i) } else s'

/-- R49: every record's level is recomputed. -/
def State.recomputeAll (s : State) : State := s.forEach State.recompute

/-! ### Entries into states (R6 to R8) -/

/-- R6: the fields of a record that enters VACANT. -/
def Locker.toVacant (r : Locker) : Locker :=
  { r with state := .vacant, order := none, voidPending := false, retireReason := none, faultReason := none,
           attempts := 0, ready := false, cold := 0, holdAge := 0, phase := .raise }

/-- R6, R15: the fields of a record that enters VACANT by UNBLOCK. R6 sets attempts to 0 whatever the cause, and R15 keeps
it through an UNBLOCK with a cycle under way; the model follows R15 there (DESIGN CHOICE, log 31). -/
def Locker.unblocked (r : Locker) : Locker :=
  { r.toVacant with attempts := if r.cycle = .none then 0 else r.attempts }

/-- R7: the fields of a record that enters RETIRED. -/
def Locker.toRetired (r : Locker) (reason : RetireReason) : Locker :=
  { r with state := .retired, retireReason := some reason, faultReason := none, voidPending := false }

/-- R8: the fields of a record that a fault strikes. -/
def Locker.toFault (r : Locker) (reason : FaultReason) : Locker :=
  if r.state = .fault then { r with faultReason := some reason }
  else { r with state := .fault, faultReason := some reason, retireReason := none, voidPending := false }

/-- R6: a record enters VACANT. The entry queues no notice. -/
def State.vacate (s : State) (i : Nat) : State := s.modLocker i Locker.toVacant

/-- R7: a record enters RETIRED, with its notice. -/
def State.retire (s : State) (i : Nat) (reason : RetireReason) : State :=
  match s.locker? i with
  | none => s
  | some r => (s.modLocker i fun r => r.toRetired reason).notify i .retired (.retire reason) r.orderNumber

/-- R8: a fault strikes a record. A FAULT record struck again with the same reason queues no notice. -/
def State.strike (s : State) (i : Nat) (reason : FaultReason) : State :=
  match s.locker? i with
  | none => s
  | some r =>
    if r.state = .fault ∧ r.faultReason = some reason then s
    else (s.modLocker i fun r => r.toFault reason).notify i .fault (.fault reason) r.orderNumber

/-- R21: the hold checks of a record that has returned to HOLDING: cold, then hold age and expiry minute. -/
def State.holdChecks (s : State) (i : Nat) : State :=
  match s.locker? i with
  | none => s
  | some r =>
    match r.order, r.figures s.time.classes with
    | some o, some c =>
      if c.coldLimit ≤ r.cold then s.retire i .cold
      else if c.longest * 60 ≤ r.holdAge ∨ isDue s.time.clock (expiryMinute o c) then s.retire i .expired
      else s
    | _, _ => s

/-! ### Latch Driver and door cycles (R10, R11, R163 to R165) -/

/-- R165: the driver takes the head of the queue when it is idle, the queue is not empty and SUPPLY LOW is
clear; the pulse-started event moves a QUEUED door cycle to PULSING (R11). -/
def State.takeLatch (s : State) : State :=
  match s.latch.pulse, s.latch.queue with
  | none, i :: rest =>
    if s.time.supplyLow then s
    else (s.withLatch ⟨rest, some ⟨i, 0⟩⟩).modLocker i fun r =>
      if r.cycle = .queued then { r with cycle := .pulsing } else r
  | _, _ => s

/-- R163: a release request joins the tail or merges; R165 then takes it at once where it can. -/
def State.requestLatch (s : State) (i : Nat) : State :=
  (if s.latch.queue.contains i then s else s.withLatch { s.latch with queue := s.latch.queue ++ [i] }).takeLatch

/-- R164: a queued request is withdrawn. -/
def State.withdrawLatch (s : State) (i : Nat) : State :=
  s.withLatch { s.latch with queue := s.latch.queue.filter (· != i) }

/-- R10: a door cycle begins. -/
def State.beginCycle (s : State) (i : Nat) : State :=
  match s.locker? i with
  | none => s
  | some r =>
    if r.doorOpen then s.modLocker i fun r => { r with attempts := 0, cycle := .opened }
    else (s.modLocker i fun r => { r with attempts := 0, cycle := .queued }).requestLatch i

/-! ### Book entries and isolation (R82, R83, R109, R110) -/

/-- An entry leaves the book (R109, R111). -/
def State.dropEntry (s : State) (order : Nat) : State := s.withBook (s.book.filter fun e => e.order != order)

/-- R82, R110: the Share Unit enters ISOLATED from JOINING or SHARING, and the Order Book drops every open
entry in the same action. In ISOLATED nothing changes. -/
def State.isolate (s : State) : State :=
  if s.share.state = .isolated then s
  else (s.withShare { s.share with state := .isolated, joinCount := 0 }).withBook []

/-! ### Warm restart (R158) -/

/-- R28: one record at a warm restart. -/
def State.revert (s : State) (i : Nat) : State :=
  match s.locker? i with
  | none => s
  | some r =>
    if r.cycle = .queued ∨ r.cycle = .pulsing then
      let s := s.modLocker i fun r => { r with cycle := .none, attempts := 0 }
      match r.state with
      | .loading =>
        if r.voidPending then (s.notify i .cancelled .none r.orderNumber).vacate i
        else s.modLocker i fun r => { r with state := .reserved, phase := .raise }
      | .releasing => (s.modLocker i fun r => { r with state := .holding }).holdChecks i
      | _ => s
    else s

/-- R145: the Line Interface at a warm restart. It keeps the listen-only flag, the backoff register and the
line monitor; LINE FAULT is the transceiver's. -/
def Line.restarted (l : Line) : Line :=
  { l with inStep := false, inStepCount := 0, rx := .hunting, replies := [], orders := [], orderNext := none,
           demand := none, demandNext := none, demandSent := false, notices := [], wire := none, extraWait := 0 }

/-- R81: the Share Unit at a warm restart. It keeps the sequence counter, and its ticks go on. -/
def Share.restarted (x : Share) : Share :=
  { x with peers := [], state := .isolated, joinCount := 0, unsentRun := 0, sentMark := true, allowance := 0,
           peerTrip := false, wallOver := false }

/-- R57, R60, R61: the Grant Controller at a warm restart. Its rounds go on. -/
def Grant.restarted (x : Grant) : Grant := { x with mask := 0, list := [], pointers := List.replicate 7 0 }

/-- R181: the Keypad Unit at a warm restart; `keysDown` says that a key reads down. -/
def Keypad.restarted (keysDown : Bool) : Keypad :=
  { Keypad.init with scan := if keysDown then .reject else .up }

/-- R158: every block but the Locker Controller takes the warm restart; the Timebase keeps all (R192). -/
def State.restartBlocks (s : State) : State :=
  { s with
    cip := Cip.init
    line := s.line.restarted
    latch := Latch.init
    share := s.share.restarted
    grant := s.grant.restarted
    book := []
    keypad := Keypad.restarted !s.pins.keys.isEmpty
    lamp := { s.lamp with test := none } }

/-- R158, R28: the warm restart. The lists are emptied before the records change, and each level is
recomputed from the kept record (R49). -/
def State.warmRestart (s : State) : State := (s.restartBlocks.forEach State.revert).recomputeAll

/-! ### Replies (R130, R139, R158) -/

/-- R158: the ACCEPT reply to a RESTART. -/
def ReplyFrame.endsRestart (f : ReplyFrame) : Bool := f.verb == verbRestart && f.outcome == .accept

/-- R139, R158: a REPLY has left its list, sent or discarded; the one a RESTARTING processor waits for makes
the warm restart. -/
def State.reportReply (s : State) (f : ReplyFrame) : State :=
  if s.cip.proc = .restarting ∧ f.endsRestart then s.warmRestart else s

/-- R130, R143: a REPLY is handed to the reply list, or discarded on arrival and reported. -/
def State.handReply (s : State) (f : ReplyFrame) : State :=
  if s.line.mute ∨ Config.replyCapacity ≤ s.line.replies.length then s.reportReply f
  else s.withLine { s.line with replies := s.line.replies ++ [⟨f, 0⟩] }

/-! ### Loss of step and address clash (R129, R142) -/

/-- R135: the list whose frame the attempt on the wire has sent, its last symbol read back equal. -/
def Line.sentWhole (l : Line) : Option ListKind :=
  l.wire.bind fun a => if a.symbols.isEmpty && !a.breaking then some a.list else none

/-- R129, R141: the Line Interface at a fall out of step. An attempt still under way is cut off, with no report. One that
is complete by R135 came before the fall: its frame has left its list, and where it is a DEMAND, the Share Unit takes its
report after the loss (R84). That an attempt is complete once it is read back whole, although its TRANSMISSION_COMPLETE is
still to be taken, is the model's choice (log 32). -/
def Line.fallen (l : Line) : Line :=
  let l := match l.sentWhole with
    | some k => { l.sent k with demandSent := l.demandSent || k == ListKind.demand }
    | none => l
  { l with inStep := false, inStepCount := 0, rx := .hunting, wire := none, replies := [], orders := [],
           orderNext := none, demand := l.demandKept, demandNext := none }

/-- R129: a station in step falls out of step. -/
def State.fallOutOfStep (s : State) : State :=
  (s.line.replies.map Queued.frame).foldl State.reportReply (s.withLine s.line.fallen).isolate

/-- R142: the Line Interface enters listen-only. An attempt on the wire cannot stand at this moment (R124);
in a state that has one it is cut off (log 18). -/
def Line.clashed (l : Line) : Line :=
  { l with listenOnly := true, wire := none, replies := [], orders := [], orderNext := none,
           demand := l.demandKept, demandNext := none }

/-- R142, R160: a station enters listen-only. -/
def State.enterListenOnly (s : State) : State :=
  (s.line.replies.map Queued.frame).foldl State.reportReply
    ((s.withLine s.line.clashed).withCip { s.cip with inbox := [] }).isolate

/-! ### Power conditions (R69, R93) -/

/-- R69, R93: at an assertion A becomes 0 and the grant list is emptied in the same action. -/
def State.cutPower (s : State) : State :=
  (s.withShare { s.share with allowance := 0 }).withGrant { s.grant with list := [] }

end Sys2Proof.Machine
end

