-- ==== Sys2Proof/Machine/Commands.lean ====
section
/-! DEFINITION. The command inbox, the processor and its verbs (chapter 7). -/

namespace Sys2Proof.Machine

/-! ### Arrival (R147, R148) -/

/-- The order number operand of LOAD and VOID (R125). -/
def CommandFrame.order (c : CommandFrame) : Nat := word24At c.ops 0

/-- The first operand byte: the locker, the LAMPTEST duration or the class index (R125). -/
def CommandFrame.operand (c : CommandFrame) : Nat := c.ops.getD 0 0

/-- R148, R159: the place of the reply list owed to a CLASS write in progress. -/
def Proc.owed : Proc → Nat
  | .writing w => if w.dest = 31 then 0 else 1
  | .free => 0
  | .restarting => 0

/-- R148: an immediate answer is handed while the list has room beyond the owed place; a command addressed
to 31 receives none. -/
def State.answerNow (s : State) (c : CommandFrame) (f : ReplyFrame) : State :=
  if c.dest ≠ 31 ∧ s.line.replies.length < Config.replyCapacity - s.cip.proc.owed then s.handReply f else s

/-- R150: the locker and state that a reply carries for an order lookup. -/
def State.lookupReply (s : State) (order : Nat) : Nat × Nat :=
  match s.holder? order with
  | none => (0, 0)
  | some i => match s.locker? i with
    | none => (0, 0)
    | some r => (i, r.state.code)

/-- R148: seven zero data bytes. -/
def zeroData : List Nat := List.replicate 7 0

/-- R148: the answer to a superseded LOAD. -/
def State.supersededReply (s : State) (c : CommandFrame) : ReplyFrame :=
  ⟨c.src, verbLoad, .refuse, .superseded, (s.lookupReply c.order).1, (s.lookupReply c.order).2, zeroData⟩

/-- R148: the BUSY answer. -/
def busyReply (c : CommandFrame) : ReplyFrame := ⟨c.src, c.verb, .busy, .none, 0, 0, zeroData⟩

/-- R147: whether an arriving frame supersedes a held one. -/
def CommandFrame.supersedes (c held : CommandFrame) : Bool :=
  c.verb == verbVoid && held.verb == verbLoad && held.order == c.order

/-- R147: COMMAND. Supersession is made before the test for room. A listen-only station delivers none (R140). -/
def execCommand (src dest verb : Nat) (ops : List Nat) (s : State) : Host.Outcome State Fault Refusal :=
  .next <|
    if s.line.listenOnly then s else
      let c : CommandFrame := ⟨src, dest, verb, ops⟩
      let gone := s.cip.inbox.filter c.supersedes
      let kept := s.cip.inbox.filter fun h => !c.supersedes h
      let s := gone.foldl (fun s h => s.answerNow h (s.supersededReply h)) (s.withCip { s.cip with inbox := kept })
      if s.cip.inbox.length < Config.inboxCapacity then s.withCip { s.cip with inbox := s.cip.inbox ++ [c] }
      else s.answerNow c (busyReply c)

/-! ### The processor (R149, R150) -/

/-- What a verb rule answers. -/
structure Answer where
  outcome : ReplyOutcome
  reason  : ReplyReason
  locker  : Nat
  state   : Nat
  data    : List Nat
deriving DecidableEq, Repr

/-- ACCEPT with a record's index and its state after the command. -/
def Answer.accept (locker state : Nat) : Answer := ⟨.accept, .none, locker, state, zeroData⟩

/-- REFUSE with a reason and the record concerned, 0 when none. -/
def Answer.refuse (reason : ReplyReason) (locker state : Nat) : Answer := ⟨.refuse, reason, locker, state, zeroData⟩

/-- R149: the processor can take a command. -/
def State.canTake (s : State) : Bool := s.cip.proc == .free && decide (s.line.replies.length < Config.replyCapacity)

/-- R150: the REPLY to a command addressed to the own station; none to one addressed to 31. -/
def State.answer (s : State) (c : CommandFrame) (a : Answer) : State :=
  if c.dest = 31 then s else s.handReply ⟨c.src, c.verb, a.outcome, a.reason, a.locker, a.state, a.data⟩

/-- R149, R150: the processor takes the oldest command where `isVerb` knows it, and applies a verb rule in the
same action. -/
def State.takeVerb (s : State) (isVerb : CommandFrame → Bool) (rule : CommandFrame → State → State × Answer) : State :=
  match s.cip.inbox with
  | [] => s
  | c :: rest =>
    if s.canTake && isVerb c then
      let r := rule c (s.withCip { s.cip with inbox := rest })
      r.1.answer c r.2
    else s

/-- R150 step 2: the verbs that COMMISSION refuses. -/
def inService (rule : CommandFrame → State → State × Answer) (c : CommandFrame) (s : State) : State × Answer :=
  if s.straps.commission then (s, .refuse .notInService 0 0) else rule c s

/-- The test for one verb byte. -/
def CommandFrame.isVerb (verb : Nat) (c : CommandFrame) : Bool := c.verb == verb

/-! ### Order verbs (R151, R152) -/

/-- R151: the rule of LOAD. -/
def loadRule (c : CommandFrame) (s : State) : State × Answer :=
  match s.holder? c.order with
  | none => (s, .refuse .unknownOrder 0 0)
  | some i =>
    match s.locker? i with
    | none => (s, .refuse .unknownOrder 0 0)
    | some r =>
      match r.state with
      | .reserved =>
        (((s.modLocker i fun r => { r with state := .loading }).beginCycle i).recompute i,
          .accept i LockerState.loading.code)
      | .loading => (s, .accept i LockerState.loading.code)
      | _ => (s, .refuse .wrongState i r.state.code)

/-- R151: LOAD. -/
def execLoad (s : State) : Host.Outcome State Fault Refusal :=
  .next (s.takeVerb (CommandFrame.isVerb verbLoad) (inService loadRule))

/-- R152: the rule of VOID. -/
def voidRule (c : CommandFrame) (s : State) : State × Answer :=
  match s.holder? c.order with
  | none =>
    if (s.entry? c.order).isSome then (s.dropEntry c.order, .accept 0 0)
    else (s, .refuse .unknownOrder 0 0)
  | some i =>
    match s.locker? i with
    | none => (s, .refuse .unknownOrder 0 0)
    | some r =>
      match r.state with
      | .reserved =>
        (((s.notify i .cancelled .none r.orderNumber).vacate i).recompute i, .accept i LockerState.vacant.code)
      | .loading => (s.modLocker i fun r => { r with voidPending := true }, .accept i LockerState.loading.code)
      | .holding => ((s.retire i .voided).recompute i, .accept i LockerState.retired.code)
      | .retired => (s, .accept i LockerState.retired.code)
      | .fault => (s, .accept i LockerState.fault.code)
      | _ => (s, .refuse .wrongState i r.state.code)

/-- R152: VOID. -/
def execVoid (s : State) : Host.Outcome State Fault Refusal :=
  .next (s.takeVerb (CommandFrame.isVerb verbVoid) (inService voidRule))

/-! ### Locker verbs (R153, R154) -/

/-- R153, R154: the frame of a locker verb: the operand names a record, and the record is swept. -/
def lockerRule (rule : Nat → Locker → State → State × Answer) (c : CommandFrame) (s : State) : State × Answer :=
  match s.locker? c.operand with
  | none => (s, .refuse .noSuchLocker 0 0)
  | some r =>
    if r.swept then rule c.operand r s else (s, .refuse .wrongState c.operand r.state.code)

/-- R153: CLEAR of a swept record. -/
def clearRule (i : Nat) (r : Locker) (s : State) : State × Answer :=
  if r.state = .retired ∨ r.state = .fault ∨ r.state = .blocked then
    (if r.cycle = .none then s.beginCycle i else s, .accept i r.state.code)
  else (s, .refuse .wrongState i r.state.code)

/-- R153: CLEAR. -/
def execClear (s : State) : Host.Outcome State Fault Refusal :=
  .next (s.takeVerb (CommandFrame.isVerb verbClear) (inService (lockerRule clearRule)))

/-- R154, R9: BLOCK of a swept record. A VACANT record's fields are already those of R6. -/
def blockRule (i : Nat) (r : Locker) (s : State) : State × Answer :=
  if r.state = .vacant then
    ((s.modLocker i fun r => { r with state := .blocked }).recompute i, .accept i LockerState.blocked.code)
  else (s, .refuse .wrongState i r.state.code)

/-- R154: BLOCK. -/
def execBlock (s : State) : Host.Outcome State Fault Refusal :=
  .next (s.takeVerb (CommandFrame.isVerb verbBlock) (inService (lockerRule blockRule)))

/-- R154: UNBLOCK of a swept record. Attempts is kept with a cycle under way: the model's choice where R6 and R15
disagree (log 31). -/
def unblockRule (i : Nat) (r : Locker) (s : State) : State × Answer :=
  if r.state = .blocked then ((s.modLocker i Locker.unblocked).recompute i, .accept i LockerState.vacant.code)
  else (s, .refuse .wrongState i r.state.code)

/-- R154: UNBLOCK. -/
def execUnblock (s : State) : Host.Outcome State Fault Refusal :=
  .next (s.takeVerb (CommandFrame.isVerb verbUnblock) (inService (lockerRule unblockRule)))

/-! ### QUERY (R155, R156) -/

/-- R155, R125: the data of a QUERY of a locker. -/
def State.lockerData (s : State) (i : Nat) (r : Locker) : List Nat :=
  bytes24 r.orderNumber ++
    [r.temp, r.level + flagBit (s.grant.list.contains i) 7, min 255 (r.cold / 8), min 255 (r.holdAge / 60)]

/-- R155: the rule of QUERY of a locker. -/
def queryRule (c : CommandFrame) (s : State) : State × Answer :=
  match s.locker? c.operand with
  | none => (s, .refuse .noSuchLocker 0 0)
  | some r => (s, ⟨.accept, .none, c.operand, r.state.code, s.lockerData c.operand r⟩)

/-- R155: QUERY of a locker. -/
def execQuery (s : State) : Host.Outcome State Fault Refusal :=
  .next (s.takeVerb (fun c => c.verb == verbQuery && c.operand != 0) queryRule)

/-- R156, R125: the data of a QUERY of the bank. -/
def State.bankData (s : State) : List Nat :=
  bytes16 s.share.allowance ++ bytes16 s.demandHU ++
    [s.share.peers.length,
     s.share.state.code + flagBit s.tripped 2 + flagBit s.straps.commission 3 + flagBit s.share.peerTrip 5 +
       flagBit s.share.wallOver 6,
     s.grant.mask]

/-- R156: QUERY of locker 0. -/
def execQueryBank (s : State) : Host.Outcome State Fault Refusal :=
  .next (s.takeVerb (fun c => c.verb == verbQuery && c.operand == 0)
    fun _ s => (s, ⟨.accept, .none, 0, 0, s.bankData⟩))

/-! ### LAMPTEST, RESTART and an unknown verb (R150, R157, R158) -/

/-- R157: the rule of LAMPTEST. -/
def lampTestRule (c : CommandFrame) (s : State) : State × Answer :=
  if 1 ≤ c.operand ∧ c.operand ≤ 30 then
    (s.withLamp { s.lamp with test := some (Config.sec c.operand) }, .accept 0 0)
  else (s, .refuse .badValue 0 0)

/-- R157: LAMPTEST. -/
def execLampTest (s : State) : Host.Outcome State Fault Refusal :=
  .next (s.takeVerb (CommandFrame.isVerb verbLampTest) lampTestRule)

/-- R158: RESTART. A RESTART addressed to 31 makes the warm restart at once; otherwise the reply is handed, and
its report makes the restart, in this action where the reply is discarded on arrival (log 8). -/
def execRestart (s : State) : Host.Outcome State Fault Refusal :=
  .next (s.takeVerb (CommandFrame.isVerb verbRestart) fun c s =>
    let s := s.withCip { s.cip with proc := .restarting }
    (if c.dest = 31 then s.warmRestart else s, .accept 0 0))

/-- R150 step 1: a verb byte of 0 or above 9 is refused BAD-VALUE. -/
def execUnknownVerb (s : State) : Host.Outcome State Fault Refusal :=
  .next (s.takeVerb (fun c => c.verb == 0 || decide (9 < c.verb)) fun _ s => (s, .refuse .badValue 0 0))

/-! ### CLASS (R159, R189) -/

/-- R125: the class figures that a CLASS command carries. -/
def CommandFrame.figures (c : CommandFrame) : ClassEntry where
  target    := c.ops.getD 1 0
  floor     := c.ops.getD 2 0
  longest   := c.ops.getD 3 0
  coldLimit := word16At c.ops 4
  grace     := c.ops.getD 6 0
  keepOn    := c.ops.getD 7 0
  keepOff   := c.ops.getD 8 0

/-- R34, R159: the ranges of the seven figures. -/
def ClassEntry.inRange (e : ClassEntry) : Bool :=
  decide (120 ≤ e.target ∧ e.target ≤ 190 ∧ 110 ≤ e.floor ∧ e.floor + 2 ≤ e.target ∧ 1 ≤ e.longest ∧
    e.longest ≤ 240 ∧ 60 ≤ e.coldLimit ∧ e.coldLimit ≤ 1800 ∧ e.grace ≤ 60 ∧ 1 ≤ e.keepOn ∧ e.keepOn ≤ 30 ∧
    1 ≤ e.keepOff ∧ e.keepOff ≤ 60)

/-- R159: CLASS. An accepted CLASS starts the write, and its reply is handed at the write's end. -/
def State.takeClass (s : State) : State :=
  match s.cip.inbox with
  | [] => s
  | c :: rest =>
    if s.canTake && c.isVerb verbClass then
      let s := s.withCip { s.cip with inbox := rest }
      if !s.straps.commission then s.answer c (.refuse .notCommissioning 0 0)
      else if decide (c.operand ≤ 7) && c.figures.inRange then
        s.withCip { s.cip with proc := .writing ⟨c.operand, c.figures, c.src, c.dest, 0⟩ }
      else s.answer c (.refuse .badValue 0 0)
    else s

/-- R159: CLASS. -/
def execClassWrite (s : State) : Host.Outcome State Fault Refusal := .next s.takeClass

/-- R159, R189: the store and the table hold the new figures. -/
def Timebase.writeClass (t : Timebase) (w : ClassWrite) : Timebase :=
  { t with classes := t.classes.set w.index (some w.entry), store := t.store.set w.index (some w.entry) }

/-- R159: CLASS_WRITE_END: the write completes, the processor becomes FREE and the owed reply is handed. -/
def execClassWriteEnd (s : State) : Host.Outcome State Fault Refusal :=
  .next <| match s.cip.proc with
    | .writing w =>
      let s := (s.withTime (s.time.writeClass w)).withCip { s.cip with proc := .free }
      if w.dest = 31 then s else s.handReply ⟨w.src, verbClass, .accept, .none, 0, 0, zeroData⟩
    | .free => s
    | .restarting => s

end Sys2Proof.Machine
end

