-- ==== Sys2Proof/Machine/Clockwork.lean ====
section
/-! DEFINITION. The part's own clockwork, which runs while no command waits: a step that is due is queued, or 10 µs pass:
every timer counts them, the line is read for one symbol, and the steps they bring are owed (log 1). -/

namespace Sys2Proof.Machine

/-- A step that is due where a condition holds. -/
def dueIf (b : Bool) (c : Instr) : List Instr := if b then [c] else []

/-- A running timer has reached its time. -/
def reached (t : Option Nat) (limit : Nat) : Bool :=
  match t with
  | some n => decide (limit ≤ n)
  | none => false

/-! ### Steps due by the processor and the transmitter (R134, R149) -/

/-- R149, R126: the row by which the processor takes a command. -/
def CommandFrame.row (c : CommandFrame) : Instr :=
  match c.verb with
  | 1 => .load
  | 2 => .void
  | 3 => .clear
  | 4 => .block
  | 5 => .unblock
  | 6 => if c.operand = 0 then .queryBank else .query
  | 7 => .lampTest
  | 8 => .restart
  | 9 => .classWrite
  | _ => .unknownVerb

/-- R149: the take of the oldest command in the inbox. -/
def State.takeDue (s : State) : List Instr :=
  match s.cip.inbox with
  | c :: _ => dueIf s.canTake c.row
  | [] => []

/-- R127, R134: the last symbol has made the monitor ACTIVE, and its LINE_ACTIVE is still to be taken. -/
def State.activeOwed (s : State) : Bool := s.owed.any fun x => x.contains .lineActive

/-- R134: an attempt begins at this symbol time. -/
def State.attemptDue (s : State) : Bool :=
  match s.line.nextInLine with
  | none => false
  | some (_, gap, _) => s.maySend && !s.activeOwed && decide (s.threshold gap ≤ s.line.accessCount)

/-- R128: the in-step count of a station out of step has reached 32. -/
def Line.inStepDue (l : Line) : Bool := !l.inStep && !l.lineFault && decide (Config.quietLimit ≤ l.inStepCount)

/-! ### One symbol time on the line (R123, R127, R128, R135, R136) -/

/-- The symbol read in this symbol time: what the line pin holds, else what the own transmitter drives, else
QUIET (R120, log 16). -/
def State.readSymbol (s : State) : Sym :=
  match s.pins.line with
  | g :: _ => Sym.ofGroup g
  | [] => s.line.driven.getD .quiet

/-- R127: a symbol that ends an ACTIVE run. -/
def Line.settlesAt (l : Line) (sym : Sym) : Bool :=
  (sym == .shut2 && l.lastShut1) || sym == .brk || (sym == .quiet && decide (Config.quietLimit ≤ l.quietRun + 1))

/-- R127: the line monitor follows a symbol. Its changes of condition are steps of their own: those at the
start of the symbol's strand and those at its end. -/
def Line.monitor (l : Line) (sym : Sym) : Line × List Instr × List Instr :=
  if l.active then
    ({ l with activityCount := min Config.jabberLimit (l.activityCount + 1),
              quietRun := if sym = .quiet then l.quietRun + 1 else 0, lastShut1 := sym == .shut1 },
      [],
      (if l.activityCount + 1 = Config.jabberLimit then [.jabber] else []) ++
        (if l.settlesAt sym then [.lineSettled] else []))
  else if sym = .quiet then ({ l with accessCount := l.accessCount + 1, lastShut1 := false }, [], [])
  else ({ l with lastShut1 := sym == .shut1 }, [.lineActive], [])

/-- R128: the in-step count follows a symbol. -/
def Line.stepLock (l : Line) (sym : Sym) : Line :=
  if l.inStep then l
  else if l.lineFault ∨ sym ≠ .quiet then { l with inStepCount := 0 }
  else { l with inStepCount := min Config.quietLimit (l.inStepCount + 1) }

/-- R123, R124: the receiver of a station in step takes a symbol. -/
def Line.receive (l : Line) (own : Nat) (sym : Sym) : Line × List Instr :=
  if l.inStep then
    let r := rxStep l.rx sym l.wire.isSome
    ({ l with rx := r.1 },
      match r.2 with
      | .none => []
      | .discarded => [.frameDiscarded]
      | .complete nibbles echo =>
        match judgeFrame own nibbles echo with
        | .discarded => [.frameDiscarded]
        | .ownEcho => []
        | .clash => [.addressClash]
        | .delivered c => [c])
  else (l, [])

/-- R135, R136: the transmitter compares the symbol read back with the one it sent. A BREAK settles the monitor where it
is read as a BREAK in an ACTIVE run (R127). -/
def Line.transmit (l : Line) (sym : Sym) : Line × List Instr :=
  match l.wire with
  | none => (l, [])
  | some a =>
    if a.breaking then ({ l with wire := some { a with settles := l.active && sym == .brk } }, [.collision])
    else match a.symbols with
      | [] => (l, [])
      | sent :: rest =>
        if sym = sent then
          ({ l with wire := some { a with symbols := rest } }, if rest.isEmpty then [.transmissionComplete] else [])
        else ({ l with wire := some { a with breaking := true } }, [])

/-- One symbol time at the Line Interface, with the steps it brings in their order. The spec does not order a frame's
delivery against a fall at its own SHUT-2, the 400th symbol of an ACTIVE run (R123, R129): the model delivers the frame
first (DESIGN CHOICE, log 33). -/
def Line.symbolTime (l : Line) (own : Nat) (sym : Sym) : Line × List Instr :=
  let m := l.monitor sym
  let r := (m.1.stepLock sym).receive own sym
  let t := r.1.transmit sym
  (t.1, m.2.1 ++ r.2 ++ t.2 ++ m.2.2)

/-! ### Timers -/

/-- A running timer counts one symbol time. -/
def bump (t : Option Nat) : Option Nat := t.map (· + 1)

/-- R170, R190: a settle timer runs while the input differs from the held value, from 0, and is stopped
otherwise. -/
def settling (t : Option Nat) (differs : Bool) : Option Nat := if differs then some (t.getD 0 + 1) else none

/-- R12, R16, R170: the timers of a record. -/
def Locker.tick (r : Locker) (p : LockerPins) : Locker :=
  { r with openWait := bump r.openWait, ajar := bump r.ajar,
           doorSettle := settling r.doorSettle (r.swept && p.doorOpen != r.doorOpen),
           traySettle := settling r.traySettle (r.swept && p.trayPresent != r.trayPresent) }

/-- R173: the key scanner reads the matrix for one symbol time. -/
def Keypad.scanTick (k : Keypad) (keys : List Key) : Keypad :=
  match k.scan, keys with
  | .up, [x] =>
    if k.scanKey = some x then { k with settle := bump k.settle } else { k with scanKey := some x, settle := some 1 }
  | .up, _ => { k with scanKey := none, settle := none }
  | _, [] => { k with settle := some (k.settle.getD 0 + 1) }
  | _, _ :: _ => { k with settle := none }

/-- R175, R178 to R180: the timers of the keypad. -/
def Keypad.tick (k : Keypad) (keys : List Key) : Keypad :=
  let k := k.scanTick keys
  { k with entryTimer := bump k.entryTimer, strikes := k.strikes.map (· + 1), lockout := bump k.lockout,
           beeper := k.beeper.map fun b => { b with time := b.time + 1 } }

/-- R186, R190: the divider and the settle timers of the power conditions. -/
def Timebase.tick (t : Timebase) (p : Pins) : Timebase :=
  { t with divider := (t.divider + 1) % Config.sec 1,
           tripSettle := settling t.tripSettle (p.feederTrip != t.feederTrip),
           supplySettle := settling t.supplySettle (p.supplyLow != t.supplyLow) }

/-- R159: the time of a store write. -/
def Proc.tick : Proc → Proc
  | .writing w => .writing { w with time := w.time + 1 }
  | .free => .free
  | .restarting => .restarting

/-- Every timer of the part counts one symbol time, and the line pin moves on by one group. -/
def State.countTime (s : State) : State :=
  { s with
    time := s.time.tick s.pins
    lockers := (s.lockers.zipIdx).map fun x => x.1.tick (s.pins.lockers.getD x.2 ⟨x.1.doorOpen, x.1.trayPresent, 0⟩)
    scanAt := (s.scanAt + 1) % Config.sec 1
    latch := { s.latch with pulse := s.latch.pulse.map fun p => { p with time := p.time + 1 } }
    keypad := s.keypad.tick s.pins.keys
    book := s.book.map fun e => { e with window := e.window + 1 }
    share := { s.share with cadence := (s.share.cadence + 1) % Config.sharePeriod }
    grant := { s.grant with cadence := (s.grant.cadence + 1) % Config.grantPeriod }
    cip := { s.cip with proc := s.cip.proc.tick }
    lamp := { s.lamp with test := s.lamp.test.map (· - 1), cadence := (s.lamp.cadence + 1) % Config.lampPeriod }
    pins := { s.pins with line := s.pins.line.drop 1 } }

/-! ### Steps due by a timer -/

/-- R12, R16, R170: the steps of one locker whose timers have reached their times. -/
def lockerDue (i : Nat) (r : Locker) : List (List Instr) :=
  [dueIf (r.cycle == .awaitOpen && reached r.openWait Config.openWaitTime) (.openWaitExpired i),
   dueIf (!r.ajarGiven && reached r.ajar Config.ajarTime) (.ajar i),
   dueIf (r.swept && reached r.doorSettle Config.inputSettleTime) (if r.doorOpen then .doorClosed i else .doorOpened i),
   dueIf (r.swept && reached r.traySettle Config.inputSettleTime) (if r.trayPresent then .trayRemoved i else .trayAppeared i)]

/-- R190: the changes of the power conditions that have settled. -/
def Timebase.powerDue (t : Timebase) : List (List Instr) :=
  [if t.feederTrip then dueIf (reached t.tripSettle Config.tripClearTime) .feederTripCleared
    else dueIf (reached t.tripSettle Config.tripAssertTime) .feederTripAsserted,
   if t.supplyLow then dueIf (reached t.supplySettle Config.supplyClearTime) .supplyLowCleared
    else dueIf (reached t.supplySettle Config.supplyAssertTime) .supplyLowAsserted]

/-- R173: the row by which a settled key is accepted. -/
def Key.row : Key → Instr
  | .digit d => .digitKey d
  | .clear => .clearKey
  | .enter => .enterKey

/-- R173: what the key scanner makes of the matrix. -/
def Keypad.scanDue (k : Keypad) (keys : List Key) : List Instr :=
  match k.scan, keys with
  | .up, [x] => dueIf (k.scanKey == some x && reached k.settle Config.keySettleTime) (Key.row x)
  | .up, x :: y :: _ => [.keyReject x y]
  | .up, [] => []
  | .down, [] => dueIf (reached k.settle Config.keySettleTime) .keysReleased
  | .down, y :: rest =>
    match k.scanKey, (y :: rest).find? fun z => some z != k.scanKey with
    | some x, some z => [.keyReject x z]
    | _, _ => []
  | .reject, [] => dueIf (reached k.settle Config.keySettleTime) .keysReleased
  | .reject, _ :: _ => []

/-- R175, R178 to R180: the keypad's steps. -/
def Keypad.due (k : Keypad) (keys : List Key) : List (List Instr) :=
  [k.scanDue keys, dueIf (reached k.entryTimer Config.entryTime) .entryTimeout,
   dueIf (reached k.lockout Config.lockoutTime) .lockoutEnd,
   dueIf (match k.beeper with
     | some b => decide (b.pattern.length ≤ b.time)
     | none => false) .beeperPatternEnd,
   dueIf (reached k.strikes.head? Config.strikeTime) .strikeAgedOut]

/-- R159: the end of a store write. -/
def Proc.due : Proc → List Instr
  | .writing w => dueIf (decide (Config.writeTime ≤ w.time)) .classWriteEnd
  | .free => []
  | .restarting => []

/-- R166: the end of a pulse. -/
def Latch.due (l : Latch) : List Instr :=
  dueIf (match l.pulse with
    | some p => decide (Config.pulseTime ≤ p.time)
    | none => false) .pulseEnded

/-- Every step that is due as the state stands, each a strand of its own. A step that has been taken, or that
another step has made pointless, is due no more. -/
def State.due (s : State) : List (List Instr) :=
  ([s.takeDue, dueIf s.attemptDue .attemptStart, dueIf s.line.inStepDue .inStep] ++ s.time.powerDue ++
    (s.lockers.zipIdx).flatMap (fun x => lockerDue (x.2 + 1) x.1) ++ [s.latch.due] ++ s.keypad.due s.pins.keys ++
    s.book.map (fun e => dueIf (decide (Config.windowTime ≤ e.window)) (.windowEnd e.order)) ++
    [s.cip.proc.due, dueIf (s.lamp.test == some 0) .lampTestEnd]).filter fun x => !x.isEmpty

/-! ### Steps brought by the cadences -/

/-- R29: the offset of locker i of n within the scanning second (log 13). -/
def scanOffset (n i : Nat) : Nat := i * Config.sec 1 / n % Config.sec 1

/-- R27, R29: the scan of a locker: its first reading, or a sample. -/
def scanStep (i : Nat) (r : Locker) (p : LockerPins) : Instr :=
  if r.swept then .probeSample i p.probe else .firstSweepReading i p.doorOpen p.trayPresent p.probe

/-- R186: the divider's steps. -/
def Timebase.beat (t : Timebase) : List Instr :=
  if t.divider = 0 then [.secondTick] else dueIf (t.divider == Config.ms 500) .flashPhase

/-- The steps that the cadences bring at this symbol time (R29, R62, R86, R183, R186), each a strand. -/
def State.beats (s : State) : List (List Instr) :=
  [s.time.beat, dueIf (s.share.cadence == 0) .shareTick, dueIf (s.grant.cadence == 0) .grantRound,
   dueIf (s.lamp.cadence == 0) .lampFrame] ++
  (s.lockers.zipIdx).map fun x => dueIf (s.scanAt == scanOffset s.count (x.2 + 1))
    (scanStep (x.2 + 1) x.1 (s.pins.lockers.getD x.2 ⟨x.1.doorOpen, x.1.trayPresent, 0⟩))

/-! ### The idle step -/

/-- 10 µs pass: one symbol on the line, every timer counted; the steps they bring are owed. -/
def State.tick (s : State) : State :=
  let l := s.line.symbolTime s.own s.readSymbol
  let t := { s.countTime with line := l.1 }
  { t with owed := (l.2 :: t.beats).filter fun x => !x.isEmpty }

/-- R186: a second tick that wraps the count from 59 is followed by its minute tick. -/
def State.withMinute (s : State) (c : Instr) : List Instr :=
  if c = .secondTick ∧ 59 ≤ s.time.second then [c, .minuteTick] else [c]

/-- Every strand that may be taken next: those owed, and those due. -/
def State.strands (s : State) : List (List Instr) := s.owed ++ s.due

/-- Which of n strands is taken next, drawn from the free value (log 4). A single strand needs no draw. -/
def draw (ties n : Nat) : Nat := if n ≤ 1 then 0 else Config.tieBreak ties % n

/-- The strand at place k is queued. -/
def State.queueStrand (s : State) (k : Nat) : State :=
  { s with owed := s.owed.eraseIdx k, ties := s.ties + 1, pending := (s.strands.getD k []).flatMap s.withMinute }

/-- What the part does while no command waits: a strand is queued, or, where there is none, 10 µs pass. -/
def State.idle (s : State) : State :=
  if s.strands.isEmpty then s.tick else s.queueStrand (draw s.ties s.strands.length)

end Sys2Proof.Machine
end

