-- ==== Sys2Proof/Machine/Hold.lean ====
section
/-! DEFINITION. The second tick and the minute tick: the clock, hold accounting, keep cycles, lapse and expiry
(chapters 2, 3 and 10). -/

namespace Sys2Proof.Machine

/-- R36: the counts of a record at a second tick. -/
def Locker.counted (r : Locker) (classes : List (Option ClassEntry)) : Locker :=
  if r.state = .holding ∨ r.state = .releasing then
    match r.figures classes with
    | none => r
    | some c =>
      { r with holdAge := if r.holdAge < c.longest * 60 then r.holdAge + 1 else r.holdAge,
               cold := if r.temp < c.floor ∧ r.cold < c.coldLimit then r.cold + 1 else r.cold }
  else r

/-- R37: the check of a HOLDING record at a second tick. -/
def State.checkLimits (s : State) (i : Nat) : State :=
  match s.locker? i with
  | none => s
  | some r =>
    match r.figures s.time.classes with
    | none => s
    | some c =>
      if r.state = .holding then
        if c.coldLimit ≤ r.cold then s.retire i .cold
        else if c.longest * 60 ≤ r.holdAge then s.retire i .expired
        else s
      else s

/-- R54: the keep cycle of a record at a second tick. -/
def Locker.keepTick (r : Locker) (classes : List (Option ClassEntry)) : Locker :=
  if r.state.heats ∧ r.phase = .keep then
    match r.figures classes with
    | none => r
    | some c =>
      if r.keepCount + 1 = (if r.keepOn then c.keepOn else c.keepOff) then { r with keepOn := !r.keepOn, keepCount := 0 }
      else { r with keepCount := r.keepCount + 1 }
  else r

/-- R186: the second count advances and the flash phase is lit. -/
def Timebase.secondTick (t : Timebase) : Timebase :=
  { t with second := if t.second < 59 then t.second + 1 else 0, flashLit := true }

/-- R186: SECOND_TICK: the second count, then hold accounting (R36, R37), then the keep cycles (R54) and the
levels. The minute tick that a wrap from 59 causes is the next step (log 7). -/
def execSecondTick (s : State) : Host.Outcome State Fault Refusal :=
  let s := s.withTime s.time.secondTick
  let s := s.withLockers (s.lockers.map fun r => r.counted s.time.classes)
  let s := s.forEach State.checkLimits
  let s := s.withLockers (s.lockers.map fun r => r.keepTick s.time.classes)
  .next s.recomputeAll

/-- R186: a set clock's minute advances as the second count wraps. -/
def Timebase.minuteTick (t : Timebase) : Timebase :=
  { t with second := 0, clock := t.clock.map fun m => (m + 1) % 1440 }

/-- R45, R46: the judgement of one record at a minute tick. -/
def State.judgeMinute (s : State) (i : Nat) : State :=
  match s.locker? i with
  | none => s
  | some r =>
    match r.order with
    | none => s
    | some o =>
      match r.state with
      | .reserved =>
        if isDue s.time.clock o.collectBy then (s.notify i .lapsed .none o.order).vacate i else s
      | .holding =>
        match r.figures s.time.classes with
        | none => s
        | some c => if isDue s.time.clock (expiryMinute o c) then s.retire i .expired else s
      | _ => s

/-- R186, R47: MINUTE_TICK: the clock, then the judgements in ascending index order, then the levels. While the
clock is UNSET no minute is due (R44), so no record changes state. -/
def execMinuteTick (s : State) : Host.Outcome State Fault Refusal :=
  .next (((s.withTime s.time.minuteTick).forEach State.judgeMinute).recomputeAll)

end Sys2Proof.Machine
end

