-- ==== Sys2Proof/Machine/KeypadUnit.lean ====
section
/-! DEFINITION. The key scanner, entries, the match, strikes, lockout and beeper (chapter 9, R25). -/

namespace Sys2Proof.Machine

/-! ### The match (R25) -/

/-- R25: the answers to a match request. -/
inductive MatchResult where
  | released | alreadyReleasing | notReady | seeStaff | noMatch
deriving DecidableEq, Repr

/-- R25: the answer for a record that holds the order. -/
def matchOf (r : Locker) (digits : Nat) : MatchResult :=
  match r.order with
  | none => .noMatch
  | some o =>
    if o.digits = digits then
      match r.state with
      | .holding => .released
      | .releasing => .alreadyReleasing
      | .reserved | .loading => .notReady
      | .retired | .fault => .seeStaff
      | .vacant | .blocked => .noMatch
    else .noMatch

/-- R25: a match request: the answer, and on RELEASED the record enters RELEASING and a door cycle begins. -/
def State.matchRequest (s : State) (order digits : Nat) : State × MatchResult :=
  match s.holder? order with
  | none => (s, .noMatch)
  | some i =>
    match s.locker? i with
    | none => (s, .noMatch)
    | some r =>
      if matchOf r digits = .released then
        (((s.modLocker i fun r => { r with state := .releasing }).beginCycle i).recompute i, .released)
      else (s, matchOf r digits)

/-! ### Keys (R173, R174) -/

/-- R173: the scanner accepts a key, which then reads down alone. -/
def State.acceptKey (s : State) (k : Key) : State :=
  (s.withKeypad { s.keypad with scan := .down, scanKey := some k, settle := none }).withPins { s.pins with keys := [k] }

/-- R174, R175: a digit joins the buffer or sets the overlong mark, and restarts the entry timer. -/
def Keypad.digit (k : Keypad) (d : Nat) : Keypad :=
  if k.buffer.length < 8 then { k with buffer := k.buffer ++ [d], entryTimer := some 0 }
  else { k with overlong := true, entryTimer := some 0 }

/-- R174 to R176, R180: the buffer is emptied, the overlong mark becomes no and the entry timer stops. -/
def Keypad.emptied (k : Keypad) : Keypad := { k with buffer := [], overlong := false, entryTimer := none }

/-- R173, R174, R180: DIGIT_KEY. A key is accepted from UP alone; a lockout discards it. -/
def execDigitKey (d : Nat) (s : State) : Host.Outcome State Fault Refusal :=
  .next <| if s.keypad.scan = .up then
    let s := s.acceptKey (.digit d)
    if s.keypad.lockout.isSome then s else s.withKeypad (s.keypad.digit d)
  else s

/-- R173, R174, R180: CLEAR_KEY. -/
def execClearKey (s : State) : Host.Outcome State Fault Refusal :=
  .next <| if s.keypad.scan = .up then
    let s := s.acceptKey .clear
    if s.keypad.lockout.isSome then s else s.withKeypad s.keypad.emptied
  else s

/-! ### ENTER (R176 to R180) -/

/-- A run of digits read as a decimal number (R176). -/
def decimal (digits : List Nat) : Nat := digits.foldl (fun n d => n * 10 + d) 0

/-- R178: a pattern starts, in place of one that sounds. -/
def Keypad.sound (k : Keypad) (b : Beep) : Keypad := { k with beeper := some ⟨b, 0⟩ }

/-- R177, R179, R180: a refused entry adds a strike; a third strike starts a lockout in place of ALERT. -/
def Keypad.refuse (k : Keypad) : Keypad :=
  if 3 ≤ k.strikes.length + 1 then ({ k with strikes := [], lockout := some 0 }.emptied).sound .lockout
  else ({ k with strikes := k.strikes ++ [0] }).sound .alert

/-- R177: the outcome of an entry at the Keypad Unit. -/
def Keypad.outcome (k : Keypad) : MatchResult → Keypad
  | .released => k.sound .accept
  | .alreadyReleasing => k.sound .ack
  | .notReady => k.sound .wait
  | .seeStaff => k.sound .alert
  | .noMatch => k.refuse

/-- R176: an entry is judged after the buffer has been taken and emptied. -/
def State.judgeEntry (s : State) (digits : List Nat) (overlong : Bool) : State :=
  let s := s.withKeypad s.keypad.emptied
  if digits.isEmpty && !overlong then s
  else if digits.length ≤ 2 ∨ overlong then s.withKeypad s.keypad.refuse
  else
    let r := s.matchRequest (decimal (digits.take (digits.length - 2))) (decimal (digits.drop (digits.length - 2)))
    r.1.withKeypad (r.1.keypad.outcome r.2)

/-- R173, R176, R180: ENTER_KEY. -/
def execEnterKey (s : State) : Host.Outcome State Fault Refusal :=
  .next <| if s.keypad.scan = .up then
    let s := s.acceptKey .enter
    if s.keypad.lockout.isSome then s else s.judgeEntry s.keypad.buffer s.keypad.overlong
  else s

/-! ### The other keypad events (R173, R175, R178 to R180) -/

/-- R173: KEY_REJECT: a second key reads down. The pins show it, by the levels they hold already or by these two
keys (log 15). -/
def execKeyReject (k₁ k₂ : Key) (s : State) : Host.Outcome State Fault Refusal :=
  .next ((s.withKeypad { s.keypad with scan := .reject, scanKey := none, settle := none }).withPins
    { s.pins with keys := if s.pins.keys.contains k₂ then s.pins.keys else [k₁, k₂] })

/-- R173: KEYS_RELEASED. In UP the keys that were down go up before any is accepted. -/
def execKeysReleased (s : State) : Host.Outcome State Fault Refusal :=
  .next ((s.withKeypad { s.keypad with scan := .up, scanKey := none, settle := none }).withPins { s.pins with keys := [] })

/-- R175: ENTRY_TIMEOUT of a running entry timer. -/
def execEntryTimeout (s : State) : Host.Outcome State Fault Refusal :=
  .next <| if s.keypad.entryTimer.isSome then s.withKeypad s.keypad.emptied else s

/-- R179: STRIKE_AGED_OUT: the oldest strike leaves the list. -/
def execStrikeAgedOut (s : State) : Host.Outcome State Fault Refusal :=
  .next (s.withKeypad { s.keypad with strikes := s.keypad.strikes.drop 1 })

/-- R180: LOCKOUT_END. -/
def execLockoutEnd (s : State) : Host.Outcome State Fault Refusal :=
  .next (s.withKeypad { s.keypad with lockout := none })

/-- R178: BEEPER_PATTERN_END. -/
def execBeeperPatternEnd (s : State) : Host.Outcome State Fault Refusal :=
  .next (s.withKeypad { s.keypad with beeper := none })

end Sys2Proof.Machine
end

