-- ==== Sys2Proof/Machine/Lamps.lean ====
section
/-! DEFINITION. The flash phase, the lamp frames and the lamp test (chapter 10). -/

namespace Sys2Proof.Machine

/-- R186: FLASH_PHASE turns dark. -/
def execFlashPhase (s : State) : Host.Outcome State Fault Refusal :=
  .next (s.withTime { s.time with flashLit := false })

/-- R183: LAMP_FRAME: the frame under way is strobed into the chain's outputs, and the next frame is built from the
state as it stands (log 12). -/
def execLampFrame (s : State) : Host.Outcome State Fault Refusal :=
  .next (s.withLamp { s.lamp with shown := s.lamp.frame, frame := s.buildFrame, cadence := 0 })

/-- R185: LAMP_TEST_END. -/
def execLampTestEnd (s : State) : Host.Outcome State Fault Refusal :=
  .next (s.withLamp { s.lamp with test := none })

end Sys2Proof.Machine
end

