-- ==== Sys2Proof/Machine/LineEvents.lean ====
section
/-! DEFINITION. Attempts, completions and collisions, the line monitor, the step lock, and the frames that have no other
owner (chapter 6, R187). -/

namespace Sys2Proof.Machine

/-! ### Attempts (R134 to R138) -/

/-- R134: ATTEMPT_START: the frame next in line goes on the wire. The event says that the access count has
reached the frame's threshold (log 2). -/
def execAttemptStart (s : State) : Host.Outcome State Fault Refusal :=
  .next <| match s.line.nextInLine with
    | none => s
    | some (list, gap, out) =>
      if s.maySend then
        s.withLine { s.line with
          accessCount := max s.line.accessCount (s.threshold gap),
          wire := some ⟨list, frameSymbols (out.bytes s.own), false, true⟩ }
      else s

/-- R84: a completed DEMAND sets the sent mark and moves an ISOLATED bank that is in step and not listen-only
to JOINING. -/
def State.demandCompleted (s : State) : State :=
  let s := s.withShare { s.share with sentMark := true }
  if s.share.state = .isolated ∧ s.line.inStep ∧ s.line.listenOnly = false then
    s.withShare { s.share with state := .joining, joinCount := 0, unsentRun := 0 }
  else s

/-- R135, R139: TRANSMISSION_COMPLETE of the attempt on the wire. The monitor is SETTLED at its SHUT-2. After a fall that
met a DEMAND read back whole, its report alone is taken (R84, log 32). -/
def execTransmissionComplete (s : State) : Host.Outcome State Fault Refusal :=
  .next <| match s.line.wire with
    | none => if s.line.demandSent then (s.withLine { s.line with demandSent := false }).demandCompleted else s
    | some a =>
      let t := s.withLine (s.line.sent a.list).settle
      match a.list with
      | .reply => match s.line.replies.head? with
        | some q => t.reportReply q.frame
        | none => t
      | .demand => t.demandCompleted
      | .order => t
      | .notice => t

/-- R136: the transmitter after a collision: a backoff is drawn, and the BREAK settles the monitor where it ended an ACTIVE
run (R127). -/
def Line.collided (l : Line) (settles : Bool) : Line :=
  let b := nextBackoff l.backoff
  let l := { l with wire := none, backoff := b, extraWait := 2 * (b.toNat % 16) }
  if settles then l.settle else l

/-- R136, R137: a frame counts one attempt more, and is given up at its eighth. -/
def Queued.retried {α : Type} (q : Queued α) : Option (Queued α) :=
  if Config.attemptLimit ≤ q.attempts + 1 then none else some { q with attempts := q.attempts + 1 }

/-- R136, R137: a list whose head has collided. -/
def retryHead {α : Type} : List (Queued α) → List (Queued α)
  | [] => []
  | q :: rest => match q.retried with
    | some q' => q' :: rest
    | none => rest

/-- R138: the order list after its head has collided: a pending replacement drops the old frame. -/
def Line.ordersAfterCollision (l : Line) : List (Queued OrderFrame) :=
  match l.orderNext with
  | some f => ⟨f, 0⟩ :: l.orders.drop 1
  | none => retryHead l.orders

/-- R138: the DEMAND slot after its frame has collided. -/
def Line.demandAfterCollision (l : Line) : Option (Queued DemandFrame) :=
  match l.demandNext with
  | some f => some ⟨f, 0⟩
  | none => l.demand.bind Queued.retried

/-- R136 to R138: COLLISION of the attempt on the wire, its BREAK sent. A BREAK that met a SETTLED monitor makes it ACTIVE
by the LINE_ACTIVE of the same symbol (R127). -/
def execCollision (s : State) : Host.Outcome State Fault Refusal :=
  .next <| match s.line.wire with
    | none => s
    | some a =>
      let l := s.line
      match a.list with
      | .reply =>
        let s := s.withLine { l.collided a.settles with replies := retryHead l.replies }
        match l.replies.head? with
        | some q => if q.retried.isNone then s.reportReply q.frame else s
        | none => s
      | .order => s.withLine { l.collided a.settles with orders := l.ordersAfterCollision, orderNext := none }
      | .demand => s.withLine { l.collided a.settles with demand := l.demandAfterCollision, demandNext := none }
      | .notice => s.withLine { l.collided a.settles with notices := retryHead l.notices }

/-! ### Line monitor and step lock (R127 to R129) -/

/-- R127, R128: LINE_ACTIVE. -/
def execLineActive (s : State) : Host.Outcome State Fault Refusal :=
  .next <| if s.line.active then s else
    s.withLine { s.line with
      active := true, accessCount := 0, activityCount := 1, quietRun := 0,
      inStepCount := if s.line.inStep then s.line.inStepCount else 0 }

/-- R127: LINE_SETTLED of an ACTIVE monitor. -/
def execLineSettled (s : State) : Host.Outcome State Fault Refusal :=
  .next <| if s.line.active then s.withLine s.line.settle else s

/-- R128: IN_STEP of a station out of step. While LINE FAULT is asserted the in-step count is held at 0, so it
cannot come. -/
def execInStep (s : State) : Host.Outcome State Fault Refusal :=
  .next <| if s.line.inStep = false ∧ s.line.lineFault = false then
    s.withLine { s.line with inStep := true, inStepCount := 0, rx := .hunting }
  else s

/-- R127, R129: JABBER of an ACTIVE monitor. The monitor stays ACTIVE, and a station in step falls out of
step. -/
def execJabber (s : State) : Host.Outcome State Fault Refusal :=
  .next <| if s.line.active then
    let s := s.withLine { s.line with activityCount := Config.jabberLimit }
    if s.line.inStep then s.fallOutOfStep else s
  else s

/-- R129: LOSS_OF_STEP: LINE FAULT becomes asserted. A station already out of step has its count held at 0. -/
def execLossOfStep (s : State) : Host.Outcome State Fault Refusal :=
  let s := s.withLine { s.line with lineFault := true }
  .next <| if s.line.inStep then s.fallOutOfStep else s.withLine { s.line with inStepCount := 0 }

/-- R129: LINE_FAULT_CLEARED does nothing but release the in-step count. -/
def execLineFaultCleared (s : State) : Host.Outcome State Fault Refusal :=
  .next (s.withLine { s.line with lineFault := false })

/-- R142: ADDRESS_CLASH. A clash found while the station is already listen-only changes nothing. -/
def execAddressClash (s : State) : Host.Outcome State Fault Refusal :=
  .next <| if s.line.listenOnly then s else s.enterListenOnly

/-! ### Frames with no other owner (R123, R140, R187) -/

/-- R123, R124: FRAME_DISCARDED: a frame inside the receiver is gone, and nothing else is left of it. -/
def execFrameDiscarded (s : State) : Host.Outcome State Fault Refusal :=
  .next <| match s.line.rx with
    | .frame _ _ _ => s.withLine { s.line with rx := .hunting }
    | .hunting => s
    | .opened _ => s

/-- R140: NOTICE of another station is passed over. -/
def execNotice (_src _locker _event _reason _order : Nat) (_lapse : Bool) (s : State) :
    Host.Outcome State Fault Refusal := .next s

/-- R140: REPLY of another station is passed over. -/
def execReply (_src _verb _outcome _reason _locker _state : Nat) (_data : List Nat) (s : State) :
    Host.Outcome State Fault Refusal := .next s

/-- R187, R49: TIME. In range it sets the clock and the second count and the levels are recomputed; no tick and no
judgement is made (R48). -/
def execTime (_src minute second : Nat) (s : State) : Host.Outcome State Fault Refusal :=
  .next <| if minute ≤ 1439 ∧ second ≤ 59 then
    (s.withTime { s.time with clock := some minute, second := second }).recomputeAll
  else s

end Sys2Proof.Machine
end

