-- ==== Sys2Proof/Machine/Lockers.lean ====
section
/-! DEFINITION. The locker events: first reading, probe samples, doors, trays, the ajar timer, the open wait and the
latch pulse (chapters 1, 2 and 8). -/

namespace Sys2Proof.Machine

/-! ### Probe samples (R29 to R33, R40) -/

/-- R31, R32: a sample applied to S, the seeded flag and the probe fault run. Codes 0 and 255 are fault samples. -/
def Locker.sampled (r : Locker) (raw : Nat) : Locker :=
  if raw = 0 ∨ raw = 255 then { r with faultRun := min 3 (r.faultRun + 1) }
  else { r with faultRun := 0, temp := if r.seeded then (3 * r.temp + raw + 2) / 4 else raw, seeded := true }

/-- R15, R33: a probe fault strikes a record. A LOADING or RELEASING record's queued request is withdrawn;
any other cycle is kept. -/
def State.probeFault (s : State) (i : Nat) : State :=
  match s.locker? i with
  | none => s
  | some r =>
    if (r.state = .loading ∨ r.state = .releasing) ∧ r.cycle = .queued then
      ((s.withdrawLatch i).modLocker i fun r => { r with cycle := .none, attempts := 0 }).strike i .probe
    else s.strike i .probe

/-- R40: a record whose S has reached the target becomes ready, with its notice. -/
def State.judgeReady (s : State) (i : Nat) : State :=
  match s.locker? i with
  | none => s
  | some r =>
    match r.figures s.time.classes with
    | none => s
    | some c =>
      if (r.state = .holding ∨ r.state = .releasing) ∧ r.ready = false ∧ c.target ≤ r.temp then
        (s.modLocker i fun r => { r with ready := true }).notify i .ready .none r.orderNumber
      else s

/-- R33, R40: the Locker Controller takes a sample result: a probe fault first (log 10), else readiness. -/
def State.takeResult (s : State) (i : Nat) : State :=
  match s.locker? i with
  | none => s
  | some r =>
    if r.faultRun = 3 ∧ r.state ≠ .blocked ∧ r.state ≠ .fault then s.probeFault i else s.judgeReady i

/-- R29: a sample of a swept locker's probe: applied, delivered, and the level recomputed. -/
def State.sample (s : State) (i raw : Nat) : State :=
  ((s.modLocker i fun r => r.sampled raw).takeResult i).recompute i

/-- R29: PROBE_SAMPLE. A locker that is not swept is not sampled. -/
def execProbeSample (i raw : Nat) (s : State) : Host.Outcome State Fault Refusal :=
  .next <| match s.locker? i with
    | none => s
    | some r => if r.swept then (s.modPins i fun p => { p with probe := raw }).sample i raw else s

/-- R27, R172: the record at its first reading: swept, with the held values as read, and the door cycle of an
open door. -/
def Locker.firstRead (r : Locker) (doorOpen trayPresent : Bool) : Locker :=
  let r := { r with swept := true, doorOpen := doorOpen, trayPresent := trayPresent }
  if doorOpen then { r with cycle := .opened, ajar := some 0, ajarGiven := false } else r

/-- R27, R172: FIRST_SWEEP_READING, delivered with the locker's first probe sample. -/
def execFirstSweepReading (i : Nat) (doorOpen trayPresent : Bool) (raw : Nat) (s : State) :
    Host.Outcome State Fault Refusal :=
  .next <| match s.locker? i with
    | none => s
    | some r =>
      if r.swept then s else
        let s := (s.modPins i fun _ => ⟨doorOpen, trayPresent, raw⟩).modLocker i
          fun r => r.firstRead doorOpen trayPresent
        (if trayPresent then s.retire i .unknown else s).sample i raw

/-! ### Doors (R13, R14, R17 to R23) -/

/-- R13, R14, R16: the ajar timer starts from 0 at an opening, with "given" cleared. -/
def Locker.openedNow (r : Locker) : Locker :=
  { r with doorOpen := true, doorSettle := none, ajar := some 0, ajarGiven := false }

/-- R13: an opening completes the release. -/
def State.completeRelease (s : State) (i : Nat) : State :=
  s.modLocker i fun r => { r with cycle := .opened, openWait := none }

/-- R9: an opening of a BLOCKED locker is taken as maintenance. -/
def State.maintenanceOpening (s : State) (i : Nat) : State :=
  (s.withdrawLatch i).modLocker i fun r => { r with cycle := .opened }

/-- R14: a forced opening faults the record. -/
def State.forcedOpening (s : State) (i : Nat) : State :=
  ((s.withdrawLatch i).modLocker i fun r => { r with cycle := .none, attempts := 0 }).strike i .forced

/-- R9, R13, R14: the Locker Controller acts on an opening by the record's door cycle and state. -/
def State.takeOpening (s : State) (i : Nat) : State :=
  match s.locker? i with
  | none => s
  | some r =>
    match r.cycle with
    | .pulsing | .awaitOpen => s.completeRelease i
    | .opened => s
    | .none | .queued => if r.state = .blocked then s.maintenanceOpening i else s.forcedOpening i

/-- R13, R14, R171: DOOR_OPENED of a swept locker whose held door is closed. -/
def execDoorOpened (i : Nat) (s : State) : Host.Outcome State Fault Refusal :=
  .next <| match s.locker? i with
    | none => s
    | some r =>
      if r.swept ∧ r.doorOpen = false then
        ((((s.modPins i fun p => { p with doorOpen := true }).modLocker i Locker.openedNow).takeOpening i).recompute i)
      else s

/-- R18: the phase of a meal at the load close, from the class target. -/
def Locker.phaseAtLoad (r : Locker) (classes : List (Option ClassEntry)) : Locker :=
  match r.figures classes with
  | some c => if c.target ≤ r.temp then r.enterKeep else { r with phase := .raise }
  | none => { r with phase := .raise }

/-- R18: a LOADING record has been loaded. -/
def State.loadClose (s : State) (i : Nat) (r : Locker) : State :=
  if r.voidPending then s.retire i .voided
  else
    (s.modLocker i fun r =>
      { r with state := .holding, cold := 0, holdAge := 0, ready := false }.phaseAtLoad s.time.classes).notify
      i .loaded .none r.orderNumber

/-- R19: a LOADING record was shut without a meal. -/
def State.emptyLoadClose (s : State) (i : Nat) (r : Locker) : State :=
  if r.voidPending then (s.notify i .cancelled .none r.orderNumber).vacate i
  else s.modLocker i fun r => { r with state := .reserved, phase := .raise }

/-- R20: a RELEASING record has been collected. -/
def State.collect (s : State) (i : Nat) (r : Locker) : State :=
  (s.notify i .collected .none r.orderNumber).vacate i

/-- R21: a RELEASING record returns to HOLDING, and the deferred hold checks are made. -/
def State.returnMeal (s : State) (i : Nat) (r : Locker) : State :=
  ((s.modLocker i fun r => { r with state := .holding }).notify i .returned .none r.orderNumber).holdChecks i

/-- R22: a clearing close of a RETIRED or FAULT record that finds the tray absent. -/
def State.clearingClose (s : State) (i : Nat) (r : Locker) : State :=
  (s.notify i .cleared .none r.orderNumber).vacate i

/-- R17: the close that ends an OPEN cycle, judged by the record's state and held tray. -/
def State.judgeClose (s : State) (i : Nat) (r : Locker) : State :=
  match r.state, r.trayPresent with
  | .loading, true => s.loadClose i r
  | .loading, false => s.emptyLoadClose i r
  | .releasing, false => s.collect i r
  | .releasing, true => s.returnMeal i r
  | .retired, false => s.clearingClose i r
  | .fault, false => s.clearingClose i r
  | .retired, true => s
  | .fault, true => s
  | .blocked, _ => s
  | .vacant, true => s.retire i .unknown
  | .vacant, false => s
  | .reserved, _ => s
  | .holding, _ => s

/-- R17: after the action the door cycle is NONE and attempts is 0. A close with another cycle ends none. -/
def State.takeClose (s : State) (i : Nat) : State :=
  match s.locker? i with
  | none => s
  | some r =>
    if r.cycle = .opened then
      (s.judgeClose i r).modLocker i fun r => { r with cycle := .none, attempts := 0 }
    else s

/-- R17, R171: DOOR_CLOSED of a swept locker whose held door is open. -/
def execDoorClosed (i : Nat) (s : State) : Host.Outcome State Fault Refusal :=
  .next <| match s.locker? i with
    | none => s
    | some r =>
      if r.swept ∧ r.doorOpen then
        ((((s.modPins i fun p => { p with doorOpen := false }).modLocker i
          fun r => { r with doorOpen := false, doorSettle := none, ajar := none }).takeClose i).recompute i)
      else s

/-! ### Trays (R24) -/

/-- R24: the tray changed behind a closed door: the states it faults. A held meal is present, so a tray
cannot appear in HOLDING. -/
def trayFaults (state : LockerState) (appeared : Bool) : Bool :=
  match state with
  | .vacant | .reserved => true
  | .holding => !appeared
  | _ => false

/-- R24: a tray change of a swept locker. -/
def State.trayChange (s : State) (i : Nat) (present : Bool) : State :=
  match s.locker? i with
  | none => s
  | some r =>
    if r.swept ∧ r.trayPresent = !present then
      let s := (s.modPins i fun p => { p with trayPresent := present }).modLocker i
        fun r => { r with trayPresent := present, traySettle := none }
      if r.doorOpen = false ∧ r.cycle = .none ∧ trayFaults r.state present then (s.strike i .tray).recompute i else s
    else s

/-- R24: TRAY_APPEARED. -/
def execTrayAppeared (i : Nat) (s : State) : Host.Outcome State Fault Refusal := .next (s.trayChange i true)

/-- R24: TRAY_REMOVED. -/
def execTrayRemoved (i : Nat) (s : State) : Host.Outcome State Fault Refusal := .next (s.trayChange i false)

/-! ### Ajar timer and open wait (R12, R16) -/

/-- R16: AJAR, for a running ajar timer whose "given" is clear. -/
def execAjar (i : Nat) (s : State) : Host.Outcome State Fault Refusal :=
  .next <| match s.locker? i with
    | none => s
    | some r =>
      if r.ajar.isSome ∧ r.ajarGiven = false then
        (s.modLocker i fun r => { r with ajar := none, ajarGiven := true }).notify i .ajar .none r.orderNumber
      else s

/-- R12: OPEN_WAIT_EXPIRED, for a record that is AWAIT-OPEN: a retry, then FAULT(LATCH). -/
def execOpenWaitExpired (i : Nat) (s : State) : Host.Outcome State Fault Refusal :=
  .next <| match s.locker? i with
    | none => s
    | some r =>
      if r.cycle = .awaitOpen then
        if r.attempts = 0 then
          (s.modLocker i fun r => { r with attempts := 1, cycle := .queued, openWait := none }).requestLatch i
        else
          ((s.modLocker i fun r => { r with attempts := 0, cycle := .none, openWait := none }).strike i .latch).recompute i
      else s

/-! ### The pulse (R166) -/

/-- R11: the pulse-ended event at the record. -/
def Locker.pulseEnd (r : Locker) : Locker :=
  if r.cycle = .pulsing then { r with cycle := .awaitOpen, openWait := some 0 } else r

/-- R166: PULSE_ENDED. The driver becomes idle and takes the next head at once where R165 allows. -/
def execPulseEnded (s : State) : Host.Outcome State Fault Refusal :=
  .next <| match s.latch.pulse with
    | none => s
    | some p => (((s.withLatch { s.latch with pulse := none }).modLocker p.locker Locker.pulseEnd).takeLatch)

end Sys2Proof.Machine
end

