-- ==== Sys2Proof/Machine/Orders.lean ====
section
/-! DEFINITION. OFFER, BID, CLAIM and RESIGN frames and the window end (chapter 5). -/

namespace Sys2Proof.Machine

/-- An entry joins the book in its place by order number (log 26). -/
def insertEntry (e : BookEntry) : List BookEntry → List BookEntry
  | [] => [e]
  | q :: rest => if e.order < q.order then e :: q :: rest else q :: insertEntry e rest

/-- R104, R105: the entry that an OFFER opens with this candidate. -/
def State.newEntry (s : State) (order cls collectBy digits candidate : Nat) : BookEntry where
  order     := order
  cls       := cls
  collectBy := collectBy
  digits    := digits
  score     := s.score candidate cls
  candidate := candidate
  rival     := none
  window    := 0

/-- R105: an entry is opened and its BID handed to the order list. -/
def State.openEntry (s : State) (e : BookEntry) : State :=
  (s.withBook (insertEntry e s.book)).handOrder ⟨e.order, .bid e.score e.candidate⟩

/-- R101, R102, R115: OFFER. -/
def execOffer (_src order cls collectBy digits : Nat) (s : State) : Host.Outcome State Fault Refusal :=
  .next <|
    if malformedOffer order cls collectBy digits then s
    else match s.holder? order with
      | some i => s.reassert i
      | none =>
        if (s.entry? order).isSome then s
        else if s.mayBid cls collectBy then
          match s.candidate? with
          | some i => s.openEntry (s.newEntry order cls collectBy digits i)
          | none => s
        else s

/-- R106: a rival pair is recorded where it is the first or beats the recorded one. -/
def BookEntry.record (e : BookEntry) (p : ScorePair) : BookEntry :=
  match e.rival with
  | none => { e with rival := some p }
  | some q => if p.beats q then { e with rival := some p } else e

/-- R106: a rival pair for an order is recorded in its open entry. -/
def State.recordRival (s : State) (order : Nat) (p : ScorePair) : State :=
  s.withBook (s.book.map fun e => if e.order = order then e.record p else e)

/-- R106, R117: BID. Without an open entry it is ignored. -/
def execBid (src order score _locker : Nat) (s : State) : Host.Outcome State Fault Refusal :=
  .next (s.recordRival order ⟨score, src⟩)

/-- R118: the bank yields a RESERVED locker: the record enters VACANT and a RESIGN is handed. -/
def State.yieldOrder (s : State) (i order : Nat) : State :=
  ((s.vacate i).recompute i).handOrder ⟨order, .resign i⟩

/-- R116, R117: a rival CLAIM against the record that holds the order. -/
def State.meetClaim (s : State) (i : Nat) (rival : ScorePair) (loaded : Bool) : State :=
  match s.locker? i with
  | none => s
  | some r =>
    match r.order with
    | none => s
    | some o =>
      if r.state = .reserved then
        if loaded ∨ rival.beats ⟨o.score, s.own⟩ then s.yieldOrder i o.order else s.reassert i
      else if loaded then s
      else s.reassert i

/-- R107, R116, R117: CLAIM. -/
def execClaim (src order score _locker : Nat) (loaded : Bool) (s : State) : Host.Outcome State Fault Refusal :=
  .next <|
    if (s.entry? order).isSome then
      if loaded then s.dropEntry order else s.recordRival order ⟨score, src⟩
    else match s.holder? order with
      | some i => s.meetClaim i ⟨score, src⟩ loaded
      | none => s

/-- R117: RESIGN is ignored in every case. -/
def execResign (_src _order _locker : Nat) (s : State) : Host.Outcome State Fault Refusal := .next s

/-- R111: the own pair wins and the collect-by is still in the future. -/
def State.wins (s : State) (e : BookEntry) : Bool :=
  (match e.rival with
    | none => true
    | some q => ScorePair.beats ⟨e.score, s.own⟩ q) && isFuture s.time.clock e.collectBy

/-- R112: the locker that the Locker Controller takes for a won order: the entry's candidate if it still
qualifies, else the first of the choice of R103 whose reserve request is taken. -/
def State.reserveChoice (s : State) (e : BookEntry) : Option Nat :=
  if s.qualifies e.candidate && s.reservable e.candidate e.order then some e.candidate
  else s.warmest (s.indices.filter fun i => s.qualifies i && s.reservable i e.order)

/-- R5: a record becomes RESERVED with the order part of the request. -/
def Locker.reserve (r : Locker) (e : BookEntry) : Locker :=
  { r with state := .reserved, order := some ⟨e.order, e.cls, e.collectBy, e.digits, e.score⟩, phase := .raise,
           voidPending := false, cycle := .none }

/-- R112: a locker is reserved for a won order and its CLAIM handed. -/
def State.claimFor (s : State) (e : BookEntry) (i : Nat) : State :=
  ((s.modLocker i fun r => r.reserve e).recompute i).handOrder ⟨e.order, .claim e.score i false⟩

/-- R111, R112: WINDOW_END of the open entry for an order. -/
def execWindowEnd (order : Nat) (s : State) : Host.Outcome State Fault Refusal :=
  .next <| match s.entry? order with
    | none => s
    | some e =>
      let t := s.dropEntry order
      if t.wins e then
        match t.reserveChoice e with
        | some i => t.claimFor e i
        | none => t
      else t

end Sys2Proof.Machine
end

