-- ==== Sys2Proof/Machine/Power.lean ====
section
/-! DEFINITION. Grant rounds, share ticks, DEMAND and SHED frames, and the power conditions (chapters 3, 4 and 10.5). -/

namespace Sys2Proof.Machine

/-! ### Grant rounds (R62 to R65) -/

/-- R61: the rotation pointer of a level 1..7. -/
def Grant.pointer (g : Grant) (level : Nat) : Nat := g.pointers.getD (level - 1) 0

/-- R63: the indices 1..N in the order of a rotation pointer: p + 1, …, N, 1, …, p. -/
def rotation (n p : Nat) : List Nat :=
  let all := (List.range n).map (· + 1)
  all.filter (p < ·) ++ all.filter (· ≤ p)

/-- R63: the candidates of a level in the order in which a round takes them. -/
def State.levelOrder (s : State) (level : Nat) : List Nat :=
  (rotation s.count (s.grant.pointer level)).filter fun i => match s.locker? i with
    | some r => r.level == level
    | none => false

/-- R63, R64: a round visits one level: it takes candidates while slots are left, and moves the pointer of a
level from which it took one. The pair is the list so far and the pointers. -/
def State.visitLevel (s : State) (slots : Nat) (acc : List Nat × List Nat) (level : Nat) : List Nat × List Nat :=
  let taken := (s.levelOrder level).take (slots - acc.1.length)
  (acc.1 ++ taken, match taken.getLast? with
    | some i => acc.2.set (level - 1) i
    | none => acc.2)

/-- R63: the levels a round visits, from 7 down to max(1, M). -/
def State.visited (s : State) : List Nat := [7, 6, 5, 4, 3, 2, 1].filter (s.leastLevel ≤ ·)

/-- R63, R64: the list and pointers a round builds. -/
def State.roundResult (s : State) : List Nat × List Nat :=
  s.visited.foldl (s.visitLevel s.slotCount) ([], s.grant.pointers)

/-- R62 to R65: GRANT_ROUND. Under FEEDER TRIP or SUPPLY LOW it builds an empty list and keeps the pointers. -/
def execGrantRound (s : State) : Host.Outcome State Fault Refusal :=
  .next <| if s.tripped then s.withGrant { s.grant with list := [] }
    else s.withGrant { s.grant with list := s.roundResult.1, pointers := s.roundResult.2 }

/-! ### The Peer Table (R75 to R79) -/

/-- R79: one entry at a share tick. -/
def Peer.aged (p : Peer) : Peer := { p with silence := p.silence + 1, stale := p.stale || decide (4 ≤ p.silence + 1) }

/-- R79: the Peer Table is aged, and an entry whose count has reached 20 is removed. -/
def agePeers (peers : List Peer) : List Peer := (peers.map Peer.aged).filter fun p => decide (p.silence < 20)

/-- An entry joins the table in its place by station (log 26), in place of one of the same station. -/
def insertPeer (p : Peer) : List Peer → List Peer
  | [] => [p]
  | q :: rest => if p.station < q.station then p :: q :: rest
    else if p.station = q.station then p :: rest
    else q :: insertPeer p rest

/-- R78: whether the first of two entries is the one a full table gives up before the second. -/
def Peer.goesBefore (p q : Peer) : Bool :=
  decide (q.silence < p.silence) || (p.silence == q.silence && decide (q.station < p.station))

/-- R78: the entry a full table gives up: highest silence count, then highest station. -/
def peerToDrop : List Peer → Option Peer
  | [] => none
  | p :: rest =>
    match peerToDrop rest with
    | none => some p
    | some q => if q.goesBefore p then some q else some p

/-- R76: the figures of a DEMAND frame, clamped in the order of the rule, as a fresh entry. -/
def clampedPeer (src seq d f k w a : Nat) (trip : Bool) : Peer :=
  let d := min 256 d
  { station := src, lastSeq := seq, d := d, f := min (min 256 f) d, k := max (min 256 k) d,
    w := max 1 (min 4 w), lastA := min 1440 a, trip := trip, silence := 0, stale := false }

/-- R78: a DEMAND that is not a duplicate is entered in the table. -/
def enterPeer (peers : List Peer) (p : Peer) : List Peer :=
  if peers.any (fun q => q.station == p.station) ∨ peers.length < Config.peerCapacity then insertPeer p peers
  else match peerToDrop peers with
    | some q => insertPeer p (peers.filter fun x => x.station != q.station)
    | none => insertPeer p peers

/-- R76 to R78: DEMAND. A source of 31 or the own number is ignored, and so is a duplicate. The ISOLATED and
COMMISSION flags are for other kinds of station. -/
def execDemand (src seq d f k w a : Nat) (trip _isolated _commission : Bool) (s : State) :
    Host.Outcome State Fault Refusal :=
  .next <|
    if src = 31 ∨ src = s.own then s
    else if s.share.peers.any (fun q => q.station == src && q.lastSeq == seq) then s
    else s.withShare { s.share with peers := enterPeer s.share.peers (clampedPeer src seq d f k w a trip) }

/-! ### The share tick (R79 to R95) -/

/-- R88: a member of the shared computation. -/
structure Member where
  demand : Nat
  floor  : Nat
  weight : Nat
deriving DecidableEq, Repr

/-- R88: an entry as a member; a STALE entry is counted at its ceiling. -/
def Peer.member (p : Peer) : Member := ⟨if p.stale then p.k else p.d, p.f, p.w⟩

/-- R88: the need e of a member. -/
def Member.need (m : Member) : Nat := m.demand - m.floor

/-- R88: the own bank and every entry of the table. -/
def State.members (s : State) : List Member :=
  ⟨s.demandHU, s.floorHU, s.weight⟩ :: s.share.peers.map Peer.member

/-- R88: ΣF over the members. -/
def floorSum (ms : List Member) : Nat := (ms.map Member.floor).sum

/-- R90: Σe over the members. -/
def needSum (ms : List Member) : Nat := (ms.map Member.need).sum

/-- R91: Q, the sum of W × e over the members. -/
def weightedNeed (ms : List Member) : Nat := (ms.map fun m => m.weight * m.need).sum

/-- R89 to R91: the shared target of a bank with these figures among these members. -/
def sharedTarget (u d f w : Nat) (ms : List Member) : Nat :=
  if u ≤ floorSum ms then u * f / floorSum ms
  else if needSum ms ≤ u - floorSum ms then d
  else f + min (d - f) ((u - floorSum ms) * w * (d - f) / weightedNeed ms)

/-- R87 to R91: the target T_s for the share state. -/
def State.target (s : State) : Nat :=
  match s.share.state with
  | .isolated | .joining => min s.demandHU s.isolatedShare
  | .sharing => sharedTarget s.usable s.demandHU s.floorHU s.weight s.members

/-- R92, R93: the allowance that a tick sets. -/
def State.nextAllowance (s : State) : Nat :=
  if s.tripped then 0
  else if s.target ≤ s.share.allowance then s.target
  else min s.target (s.share.allowance + s.ramp)

/-- R79: step 1 of the share tick. -/
def State.agePeerTable (s : State) : State := s.withShare { s.share with peers := agePeers s.share.peers }

/-- R83: step 2 of the share tick: the unsent run, which may isolate the bank; then the mark becomes no. -/
def State.countUnsent (s : State) : State :=
  let run := if s.share.sentMark then 0 else min 8 (s.share.unsentRun + 1)
  let s := s.withShare { s.share with unsentRun := run, sentMark := false }
  if run = 8 then s.isolate else s

/-- R92, R68: steps 3 to 6 of the share tick: the allowance, and the trim of the list to a lowered allowance. -/
def State.setAllowance (s : State) : State :=
  let a := s.nextAllowance
  let list := if a < s.share.allowance then s.grant.list.take (a / Config.heaterRating) else s.grant.list
  (s.withShare { s.share with allowance := a }).withGrant { s.grant with list := list }

/-- R85: step 7 of the share tick. -/
def Share.countJoin (x : Share) : Share :=
  if x.state = .joining then
    { x with joinCount := x.joinCount + 1, state := if 8 ≤ x.joinCount + 1 then .sharing else .joining }
  else x

/-- R80: step 8 of the share tick. -/
def Share.indicate (x : Share) (usable : Nat) : Share :=
  let fresh := x.peers.filter fun p => !p.stale
  { x with peerTrip := fresh.any Peer.trip,
           wallOver := x.state == .sharing && decide (usable < x.allowance + (fresh.map Peer.lastA).sum) }

/-- R95: the announcement of a tick. -/
def State.announcement (s : State) : DemandFrame where
  seq        := s.share.seq
  d          := s.demandHU
  f          := s.floorHU
  k          := s.ceilingHU
  w          := s.weight
  a          := s.share.allowance
  trip       := s.tripped
  isolated   := s.share.state != .sharing
  commission := s.straps.commission

/-- R95: step 9 of the share tick. -/
def State.announce (s : State) : State :=
  let s := s.withShare { s.share with seq := (s.share.seq + 1) % 256 }
  s.withLine (s.line.refillDemand s.announcement)

/-- R86: SHARE_TICK, its nine steps in order. -/
def execShareTick (s : State) : Host.Outcome State Fault Refusal :=
  let s := s.agePeerTable.countUnsent.setAllowance
  let s := s.withShare (s.share.countJoin.indicate s.usable)
  .next s.announce

/-! ### SHED (R57) -/

/-- R57: SHED sets M to the low three bits of the mask byte. -/
def execShed (_src mask : Nat) (s : State) : Host.Outcome State Fault Refusal :=
  .next (s.withGrant { s.grant with mask := mask % 8 })

/-! ### Power conditions (R190, R69, R93, R167) -/

/-- R190: FEEDER_TRIP_ASSERTED. -/
def execFeederTripAsserted (s : State) : Host.Outcome State Fault Refusal :=
  .next <| if s.time.feederTrip then s else
    ((s.withTime { s.time with feederTrip := true, tripSettle := none }).withPins { s.pins with feederTrip := true }).cutPower

/-- R190: FEEDER_TRIP_CLEARED. The next share tick ramps the allowance (R93). -/
def execFeederTripCleared (s : State) : Host.Outcome State Fault Refusal :=
  .next <| if s.time.feederTrip then
    (s.withTime { s.time with feederTrip := false, tripSettle := none }).withPins { s.pins with feederTrip := false }
  else s

/-- R190: SUPPLY_LOW_ASSERTED. The latch queue is held from here on (R167). -/
def execSupplyLowAsserted (s : State) : Host.Outcome State Fault Refusal :=
  .next <| if s.time.supplyLow then s else
    ((s.withTime { s.time with supplyLow := true, supplySettle := none }).withPins { s.pins with supplyLow := true }).cutPower

/-- R190, R167: SUPPLY_LOW_CLEARED. An idle driver takes the head of the queue in the same action. -/
def execSupplyLowCleared (s : State) : Host.Outcome State Fault Refusal :=
  .next <| if s.time.supplyLow then
    ((s.withTime { s.time with supplyLow := false, supplySettle := none }).withPins
      { s.pins with supplyLow := false }).takeLatch
  else s

end Sys2Proof.Machine
end

