-- ==== Sys2Proof/Machine/Resets.lean ====
section
/-! DEFINITION. The two resets (5.5, R191, R192, R158). -/

namespace Sys2Proof.Machine

/-- R191: the part after a power-on reset with the straps at these levels. The class store is nonvolatile (R189);
the lamp chain's outputs and the pins are outside the part. -/
def State.powerOn (s : State) (p : Straps) : State :=
  { State.reset with
    straps  := p
    time    := Timebase.init s.time.store
    lockers := List.replicate (lockerCount p) Locker.init
    line    := Line.init p.station s.line.lineFault
    lamp    := LampChain.init s.lamp.shown
    pins    := s.pins
    ties    := s.ties
    pending := s.pending }

/-- R191: POWER_ON_RESET. -/
def execPowerOnReset (p : Straps) (s : State) : Host.Outcome State Fault Refusal := .next (s.powerOn p)

/-- R158: WARM_RESTART. -/
def execWarmRestart (s : State) : Host.Outcome State Fault Refusal := .next s.warmRestart

end Sys2Proof.Machine
end

