-- ==== Sys2Proof/Machine/Dispatch.lean ====
section
/-! DEFINITION. The dispatch of the table's commands to their meanings, one arm for each row. -/

namespace Sys2Proof.Machine

/-- The effect of a command on everything but the queue of waiting commands. -/
def exec (i : Instr) (s : State) : Host.Outcome State Fault Refusal :=
  match i with
  | .powerOnReset straps => Sys2Proof.Machine.execPowerOnReset straps s
  | .warmRestart => Sys2Proof.Machine.execWarmRestart s
  | .firstSweepReading locker doorOpen trayPresent raw => Sys2Proof.Machine.execFirstSweepReading locker doorOpen trayPresent raw s
  | .probeSample locker raw => Sys2Proof.Machine.execProbeSample locker raw s
  | .doorOpened locker => Sys2Proof.Machine.execDoorOpened locker s
  | .doorClosed locker => Sys2Proof.Machine.execDoorClosed locker s
  | .trayAppeared locker => Sys2Proof.Machine.execTrayAppeared locker s
  | .trayRemoved locker => Sys2Proof.Machine.execTrayRemoved locker s
  | .ajar locker => Sys2Proof.Machine.execAjar locker s
  | .openWaitExpired locker => Sys2Proof.Machine.execOpenWaitExpired locker s
  | .pulseEnded => Sys2Proof.Machine.execPulseEnded s
  | .secondTick => Sys2Proof.Machine.execSecondTick s
  | .minuteTick => Sys2Proof.Machine.execMinuteTick s
  | .flashPhase => Sys2Proof.Machine.execFlashPhase s
  | .lampFrame => Sys2Proof.Machine.execLampFrame s
  | .lampTestEnd => Sys2Proof.Machine.execLampTestEnd s
  | .shareTick => Sys2Proof.Machine.execShareTick s
  | .grantRound => Sys2Proof.Machine.execGrantRound s
  | .demand src seq d f k w a trip isolated commission => Sys2Proof.Machine.execDemand src seq d f k w a trip isolated commission s
  | .offer src order cls collectBy digits => Sys2Proof.Machine.execOffer src order cls collectBy digits s
  | .bid src order score locker => Sys2Proof.Machine.execBid src order score locker s
  | .claim src order score locker loaded => Sys2Proof.Machine.execClaim src order score locker loaded s
  | .resign src order locker => Sys2Proof.Machine.execResign src order locker s
  | .windowEnd order => Sys2Proof.Machine.execWindowEnd order s
  | .time src minute second => Sys2Proof.Machine.execTime src minute second s
  | .shed src mask => Sys2Proof.Machine.execShed src mask s
  | .notice src locker event reason order lapse => Sys2Proof.Machine.execNotice src locker event reason order lapse s
  | .reply src verb outcome reason locker state data => Sys2Proof.Machine.execReply src verb outcome reason locker state data s
  | .frameDiscarded => Sys2Proof.Machine.execFrameDiscarded s
  | .addressClash => Sys2Proof.Machine.execAddressClash s
  | .command src dest verb ops => Sys2Proof.Machine.execCommand src dest verb ops s
  | .load => Sys2Proof.Machine.execLoad s
  | .void => Sys2Proof.Machine.execVoid s
  | .clear => Sys2Proof.Machine.execClear s
  | .block => Sys2Proof.Machine.execBlock s
  | .unblock => Sys2Proof.Machine.execUnblock s
  | .query => Sys2Proof.Machine.execQuery s
  | .queryBank => Sys2Proof.Machine.execQueryBank s
  | .lampTest => Sys2Proof.Machine.execLampTest s
  | .restart => Sys2Proof.Machine.execRestart s
  | .classWrite => Sys2Proof.Machine.execClassWrite s
  | .unknownVerb => Sys2Proof.Machine.execUnknownVerb s
  | .classWriteEnd => Sys2Proof.Machine.execClassWriteEnd s
  | .attemptStart => Sys2Proof.Machine.execAttemptStart s
  | .transmissionComplete => Sys2Proof.Machine.execTransmissionComplete s
  | .collision => Sys2Proof.Machine.execCollision s
  | .lineSettled => Sys2Proof.Machine.execLineSettled s
  | .inStep => Sys2Proof.Machine.execInStep s
  | .jabber => Sys2Proof.Machine.execJabber s
  | .lossOfStep => Sys2Proof.Machine.execLossOfStep s
  | .lineFaultCleared => Sys2Proof.Machine.execLineFaultCleared s
  | .feederTripAsserted => Sys2Proof.Machine.execFeederTripAsserted s
  | .feederTripCleared => Sys2Proof.Machine.execFeederTripCleared s
  | .supplyLowAsserted => Sys2Proof.Machine.execSupplyLowAsserted s
  | .supplyLowCleared => Sys2Proof.Machine.execSupplyLowCleared s
  | .digitKey d => Sys2Proof.Machine.execDigitKey d s
  | .clearKey => Sys2Proof.Machine.execClearKey s
  | .enterKey => Sys2Proof.Machine.execEnterKey s
  | .keyReject first second => Sys2Proof.Machine.execKeyReject first second s
  | .keysReleased => Sys2Proof.Machine.execKeysReleased s
  | .entryTimeout => Sys2Proof.Machine.execEntryTimeout s
  | .strikeAgedOut => Sys2Proof.Machine.execStrikeAgedOut s
  | .lockoutEnd => Sys2Proof.Machine.execLockoutEnd s
  | .beeperPatternEnd => Sys2Proof.Machine.execBeeperPatternEnd s
  | .lineActive => Sys2Proof.Machine.execLineActive s

end Sys2Proof.Machine
end

