-- ==== Sys2Proof/Safety.lean ====
section
/-! DEFINITION. What counts as a safe run: the laws that the manual states of the whole part, in the terms the
statements use. Each is a condition on one state that a step must keep. -/

namespace Sys2Proof.Machine

/-! ### Power (R60, R66, R69, R71, R92) -/

/-- R71, first law: the energised heaters fit in the allowance. -/
abbrev State.PowerLaw (s : State) : Prop := Config.heaterRating * s.grant.list.length ≤ s.share.allowance

/-- R92: the allowance never exceeds U. -/
abbrev State.AllowanceLaw (s : State) : Prop := s.share.allowance ≤ s.usable

/-- R69, R93: while FEEDER TRIP or SUPPLY LOW is asserted, A is 0 and the grant list is empty. -/
abbrev State.TripLaw (s : State) : Prop := s.tripped = true → s.share.allowance = 0 ∧ s.grant.list = []

/-- R50, R60, R66: a record to which a forcing condition applies has level 0; a listed locker is one of the
bank's with a level above 0; no index is listed twice. -/
abbrev State.HeatLaw (s : State) : Prop :=
  (∀ r ∈ s.lockers, r.forcedOff s.straps.commission = true → r.level = 0) ∧
  (∀ i ∈ s.grant.list, match s.locker? i with
    | some r => r.level ≠ 0
    | none => False) ∧
  s.grant.list.Nodup

/-! ### Records (R3, R15, R24, R27) -/

/-- The order part is absent in VACANT and BLOCKED, and present in RESERVED, LOADING, HOLDING and RELEASING
(1.2, R3). -/
abbrev Locker.OrderFits (r : Locker) : Prop :=
  ((r.state = .vacant ∨ r.state = .blocked) → r.order = none) ∧
  ((r.state = .reserved ∨ r.state = .loading ∨ r.state = .holding ∨ r.state = .releasing) → r.order.isSome = true)

/-- R15, R17, R24: the door cycle is NONE in RESERVED and HOLDING, another value in LOADING and RELEASING, and
OPEN where the door is open, but for a door forced open in FAULT. -/
abbrev Locker.CycleFits (r : Locker) : Prop :=
  ((r.state = .reserved ∨ r.state = .holding) → r.cycle = .none) ∧
  ((r.state = .loading ∨ r.state = .releasing) → r.cycle ≠ .none) ∧
  (r.cycle = .opened → r.doorOpen = true) ∧
  (r.doorOpen = true → r.cycle = .opened ∨ r.state = .fault) ∧
  (r.cycle = .awaitOpen ↔ r.openWait.isSome = true) ∧
  r.attempts ≤ 1

/-- R2, R7, R8, R18, R19, R27: void pending is set in LOADING alone, a retire reason stands in RETIRED and a fault
reason in FAULT, and a record that is not swept is VACANT with its door closed. -/
abbrev Locker.FieldsFit (r : Locker) : Prop :=
  (r.voidPending = true → r.state = .loading) ∧
  (r.retireReason.isSome = true ↔ r.state = .retired) ∧
  (r.faultReason.isSome = true ↔ r.state = .fault) ∧
  (r.swept = false → r.state = .vacant ∧ r.cycle = .none ∧ r.doorOpen = false)

/-- What holds of every record between steps. -/
abbrev State.RecordLaw (s : State) : Prop := ∀ r ∈ s.lockers, r.OrderFits ∧ r.CycleFits ∧ r.FieldsFit

/-- The order numbers that the records hold, in index order. -/
def State.heldOrders (s : State) : List Nat := s.lockers.filterMap fun r => r.order.map OrderPart.order

/-- R3: an order number is held by at most one record. -/
abbrev State.OneHolder (s : State) : Prop := s.heldOrders.Nodup

/-! ### Latch Driver (R11, R162, R165) -/

/-- R162: the queue holds indices 1..N, each at most once; R165: an idle driver with SUPPLY LOW clear leaves no index
waiting; R11: a QUEUED record waits in the queue, and a PULSING one has the pulse. -/
abbrev State.LatchLaw (s : State) : Prop :=
  s.latch.queue.Nodup ∧
  (∀ i ∈ s.latch.queue, i ∈ s.indices) ∧
  (s.latch.pulse = none → s.time.supplyLow = false → s.latch.queue = []) ∧
  (∀ i ∈ s.indices, match s.locker? i with
    | some r => (r.cycle = .queued → i ∈ s.latch.queue) ∧ (r.cycle = .pulsing → s.latchSelect i = true)
    | none => True)

/-! ### Line, book and shares (R82, R99, R110, R130, R131, R133, R146, R159) -/

/-- R130, R131, R133, R146: the capacities of the four lists and the inbox, one frame for an order number, and room for
the reply that a store write owes (R159). -/
abbrev State.ListLaw (s : State) : Prop :=
  s.line.replies.length + s.cip.proc.owed ≤ Config.replyCapacity ∧
  s.line.orders.length ≤ Config.orderCapacity ∧
  (s.line.orders.map fun q => q.frame.order).Nodup ∧
  (∀ f ∈ s.line.orderNext, s.line.orders.head?.map (fun q => q.frame.order) = some f.order) ∧
  s.line.notices.length ≤ Config.noticeCapacity ∧
  s.cip.inbox.length ≤ Config.inboxCapacity

/-- R82, R110, R134: a bank that is out of step or listen-only is ISOLATED and has nothing on the wire, and an
ISOLATED bank has no open entry. -/
abbrev State.SilentLaw (s : State) : Prop :=
  ((s.line.inStep = false ∨ s.line.listenOnly = true) → s.share.state = .isolated ∧ s.line.wire = none) ∧
  (s.share.state = .isolated → s.book = [])

/-- R99, R101: at most 8 entries, never two for one order or one candidate, and none for an order that a record
holds. -/
abbrev State.BookLaw (s : State) : Prop :=
  s.book.length ≤ Config.bookCapacity ∧
  (s.book.map BookEntry.order).Nodup ∧
  (s.book.map BookEntry.candidate).Nodup ∧
  ∀ e ∈ s.book, e.order ∉ s.heldOrders

/-- R75, R76, R79: one entry of the Peer Table. -/
abbrev Peer.Fits (p : Peer) : Prop :=
  p.f ≤ p.d ∧ p.d ≤ p.k ∧ p.k ≤ 256 ∧ 1 ≤ p.w ∧ p.w ≤ 4 ∧ p.lastA ≤ 1440 ∧ p.silence < 20 ∧
  p.stale = decide (4 ≤ p.silence)

/-- R75: at most 30 entries, one for a station, none for the own station; the model keeps them in the order of their
stations (log 26). -/
abbrev State.PeerLaw (s : State) : Prop :=
  s.share.peers.length ≤ Config.peerCapacity ∧
  (s.share.peers.map Peer.station).Pairwise (· < ·) ∧
  ∀ p ∈ s.share.peers, p.station ≠ s.own ∧ p.Fits

/-! ### Keypad and clock (R174, R175, R179, R180, R186) -/

/-- R174, R175, R179, R180: at most 8 digits and 2 strikes; the entry timer runs while the buffer holds a digit; a
lockout stands with neither digit nor strike. -/
abbrev State.KeypadLaw (s : State) : Prop :=
  s.keypad.buffer.length ≤ 8 ∧
  s.keypad.strikes.length ≤ 2 ∧
  (s.keypad.entryTimer.isSome = true ↔ s.keypad.buffer ≠ []) ∧
  (s.keypad.overlong = true → s.keypad.buffer.length = 8) ∧
  (s.keypad.lockout.isSome = true → s.keypad.buffer = [] ∧ s.keypad.strikes = [])

/-- R186, R57, R61, R95: the ranges of the clock, the second count, the shed mask, the seven rotation pointers and the
sequence counter. -/
abbrev State.RangeLaw (s : State) : Prop :=
  (∀ m ∈ s.time.clock, m < 1440) ∧ s.time.second < 60 ∧ s.grant.mask < 8 ∧ s.share.seq < 256 ∧
  s.grant.pointers.length = 7 ∧ ∀ p ∈ s.grant.pointers, p ≤ s.count

/-! ### Words of the statements -/

/-- A law that every step keeps, from every state that has it. -/
abbrev KeptByStep (law : State → Prop) : Prop := ∀ s t : State, law s → step s = .next t → law t

/-- The command completes: the machine goes on in the state t. -/
abbrev Completes (c : Instr) (s t : State) : Prop := exec c s = .next t

/-- Every record but that of locker i stands as it did. -/
abbrev State.OthersKept (s t : State) (i : Nat) : Prop := t.count = s.count ∧ ∀ j, j ≠ i → t.locker? j = s.locker? j

/-- Nothing changes but the Locker Table, the notice list, the latch queue, the grant list and the input pins. -/
abbrev State.LockerSideOnly (s t : State) : Prop :=
  { t with lockers := s.lockers, line := s.line, latch := s.latch, grant := s.grant, pins := s.pins } = s

/-- R42: a minute of the day is due at the minute `now`, in the words of the rule. -/
abbrev DueAt (now t : Nat) : Prop := ¬ (1 ≤ ((t : Int) - (now : Int)) % 1440 ∧ ((t : Int) - (now : Int)) % 1440 ≤ 720)

/-- R148, R150: the answer to a command: it joins the tail of the reply list, unless the command was addressed to 31 or
the station is out of step or listen-only. -/
abbrev State.Answered (s t : State) (c : CommandFrame) (f : ReplyFrame) : Prop :=
  t.line.replies = if c.dest = 31 ∨ s.line.inStep = false ∨ s.line.listenOnly = true then s.line.replies
    else s.line.replies ++ [⟨f, 0⟩]

/-- R149: the processor is FREE, the reply list has room, and the oldest command is this one. -/
abbrev State.Takes (s : State) (c : CommandFrame) (rest : List CommandFrame) : Prop :=
  s.cip.inbox = c :: rest ∧ s.cip.proc = .free ∧ s.line.replies.length < 4

/-- R149: the command has left the inbox, and nothing else of the CIP has changed. -/
abbrev State.TakenFrom (s t : State) (rest : List CommandFrame) : Prop := t.cip = { s.cip with inbox := rest }

/-- R150: the command is taken and refused, and nothing but the inbox and the reply list changes. -/
abbrev State.RefusedOnly (s t : State) (c : CommandFrame) (rest : List CommandFrame) (why : ReplyReason)
    (locker code : Nat) : Prop :=
  s.TakenFrom t rest ∧ ({ t with cip := s.cip, line := s.line } : State) = s ∧
  ({ t.line with replies := s.line.replies } : Line) = s.line ∧
  s.Answered t c ⟨c.src, c.verb, .refuse, why, locker, code, [0, 0, 0, 0, 0, 0, 0]⟩

/-- R49, R66: the record of locker i stands as a recomputation leaves it, with the phase judged from this one; and at
level 0 it is not on the grant list. -/
abbrev State.Recomputed (t : State) (i : Nat) (before : Phase) : Prop :=
  ∀ q, t.locker? i = some q →
    q = ({ q with phase := before } : Locker).recomputed t.time.classes t.time.clock t.straps.commission ∧
    (q.level = 0 → i ∉ t.grant.list)

/-- R3: the order number is held by this record of locker i, with this order part. -/
abbrev State.HeldAt (s : State) (order i : Nat) (r : Locker) (o : OrderPart) : Prop :=
  s.locker? i = some r ∧ r.order = some o ∧ o.order = order

/-- R3: no record holds the order number. -/
abbrev State.HeldNowhere (s : State) (order : Nat) : Prop :=
  ∀ i r o, s.locker? i = some r → r.order = some o → o.order ≠ order

/-- R114: past RESERVED. -/
abbrev LockerState.Past (x : LockerState) : Prop :=
  x = .loading ∨ x = .holding ∨ x = .releasing ∨ x = .retired ∨ x = .fault

/-- R103: the record of locker i meets the conditions for a candidate locker. -/
abbrev State.Fit (s : State) (i : Nat) : Prop :=
  ∃ r, s.locker? i = some r ∧ r.swept = true ∧ r.state = .vacant ∧ r.cycle = .none ∧ r.faultRun = 0 ∧
    ∀ e ∈ s.book, e.candidate ≠ i

/-- R103: the choice among them: the highest S, then the lowest index. -/
abbrev State.Chosen (s : State) (i : Nat) : Prop :=
  s.Fit i ∧ ∀ j, s.Fit j → s.tempAt j < s.tempAt i ∨ (s.tempAt j = s.tempAt i ∧ i ≤ j)

/-- R63: the lockers of a level, in the order that begins after the level's rotation pointer. -/
def State.turns (s : State) (level : Nat) : List Nat :=
  ((List.range s.count).map fun k => (s.grant.pointers.getD (level - 1) 0 + k) % s.count + 1).filter fun i =>
    (s.locker? i).map Locker.level == some level

/-! ### The rows that the clockwork brings (logs 1, 13, 25) -/

/-- A running timer stands at its time, or beyond it. -/
abbrev Elapsed (t : Option Nat) (limit : Nat) : Prop := ∃ n, t = some n ∧ limit ≤ n

/-- R149: the processor may take the oldest command, and its verb is this one. -/
abbrev State.TakesVerb (s : State) (verb : Nat) : Prop := ∃ c rest, s.Takes c rest ∧ c.verb = verb

/-- R173: this key reads down alone, and has settled. -/
abbrev State.KeySettled (s : State) (x : Key) : Prop :=
  s.keypad.scan = .up ∧ s.pins.keys = [x] ∧ s.keypad.scanKey = some x ∧ Elapsed s.keypad.settle 2000

/-- R29: the scan has come to locker i, whose pins show these levels. Where no levels are given, they are those held and
the fault sample 0 (log 6). -/
abbrev State.Scans (s : State) (i : Nat) (r : Locker) (p : LockerPins) : Prop :=
  s.locker? i = some r ∧ s.scanAt = i * 100000 / s.count % 100000 ∧
  p = s.pins.lockers.getD (i - 1) ⟨r.doorOpen, r.trayPresent, 0⟩

/-- The row is due as the state stands: its timer has reached its time, or the condition holds on which the processor
takes a command (R149), the transmitter begins an attempt (R134), or the station becomes in step (R128). -/
def State.RowDue (s : State) : Instr → Prop
  | .load => s.TakesVerb 1
  | .void => s.TakesVerb 2
  | .clear => s.TakesVerb 3
  | .block => s.TakesVerb 4
  | .unblock => s.TakesVerb 5
  | .query => ∃ c rest, s.Takes c rest ∧ c.verb = 6 ∧ c.ops.getD 0 0 ≠ 0
  | .queryBank => ∃ c rest, s.Takes c rest ∧ c.verb = 6 ∧ c.ops.getD 0 0 = 0
  | .lampTest => s.TakesVerb 7
  | .restart => s.TakesVerb 8
  | .classWrite => s.TakesVerb 9
  | .unknownVerb => ∃ c rest, s.Takes c rest ∧ (c.verb = 0 ∨ 9 < c.verb)
  | .attemptStart => ∃ k gap out, s.line.nextInLine = some (k, gap, out) ∧ s.line.inStep = true ∧
      s.line.listenOnly = false ∧ s.line.wire = none ∧ s.line.active = false ∧ (∀ x ∈ s.owed, .lineActive ∉ x) ∧
      gap + 2 * s.straps.station.toNat + s.line.extraWait ≤ s.line.accessCount
  | .inStep => s.line.inStep = false ∧ s.line.lineFault = false ∧ 32 ≤ s.line.inStepCount
  | .feederTripAsserted => s.time.feederTrip = false ∧ Elapsed s.time.tripSettle 1000
  | .feederTripCleared => s.time.feederTrip = true ∧ Elapsed s.time.tripSettle 100000
  | .supplyLowAsserted => s.time.supplyLow = false ∧ Elapsed s.time.supplySettle 200
  | .supplyLowCleared => s.time.supplyLow = true ∧ Elapsed s.time.supplySettle 20000
  | .openWaitExpired i => ∃ r, s.locker? i = some r ∧ r.cycle = .awaitOpen ∧ Elapsed r.openWait 200000
  | .ajar i => ∃ r, s.locker? i = some r ∧ r.ajarGiven = false ∧ Elapsed r.ajar 12000000
  | .doorOpened i => ∃ r, s.locker? i = some r ∧ r.swept = true ∧ r.doorOpen = false ∧ Elapsed r.doorSettle 5000
  | .doorClosed i => ∃ r, s.locker? i = some r ∧ r.swept = true ∧ r.doorOpen = true ∧ Elapsed r.doorSettle 5000
  | .trayAppeared i => ∃ r, s.locker? i = some r ∧ r.swept = true ∧ r.trayPresent = false ∧ Elapsed r.traySettle 5000
  | .trayRemoved i => ∃ r, s.locker? i = some r ∧ r.swept = true ∧ r.trayPresent = true ∧ Elapsed r.traySettle 5000
  | .pulseEnded => ∃ p, s.latch.pulse = some p ∧ 30000 ≤ p.time
  | .digitKey d => s.KeySettled (.digit d)
  | .clearKey => s.KeySettled .clear
  | .enterKey => s.KeySettled .enter
  | .keyReject x y => (s.keypad.scan = .up ∧ ∃ rest, s.pins.keys = x :: y :: rest) ∨
      (s.keypad.scan = .down ∧ s.keypad.scanKey = some x ∧ s.pins.keys.find? (fun z => z != x) = some y)
  | .keysReleased => s.keypad.scan ≠ .up ∧ s.pins.keys = [] ∧ Elapsed s.keypad.settle 2000
  | .entryTimeout => Elapsed s.keypad.entryTimer 1000000
  | .lockoutEnd => Elapsed s.keypad.lockout 3000000
  | .beeperPatternEnd => ∃ b, s.keypad.beeper = some b ∧ (match b.pattern with
      | .ack => 10000
      | .accept => 30000
      | .wait => 50000
      | .alert => 110000
      | .lockout => 50000) ≤ b.time
  | .strikeAgedOut => ∃ n rest, s.keypad.strikes = n :: rest ∧ 6000000 ≤ n
  | .windowEnd order => ∃ e ∈ s.book, e.order = order ∧ 40000 ≤ e.window
  | .classWriteEnd => ∃ w, s.cip.proc = .writing w ∧ 2000 ≤ w.time
  | .lampTestEnd => s.lamp.test = some 0
  | _ => False

/-- The row is brought by a cadence that has come round as the state stands. -/
def State.RowOnBeat (s : State) : Instr → Prop
  | .secondTick => s.time.divider = 0
  | .flashPhase => s.time.divider = 50000
  | .shareTick => s.share.cadence = 0
  | .grantRound => s.grant.cadence = 0
  | .lampFrame => s.lamp.cadence = 0
  | .probeSample i raw => ∃ r p, s.Scans i r p ∧ r.swept = true ∧ p.probe = raw
  | .firstSweepReading i door tray raw => ∃ r, s.Scans i r ⟨door, tray, raw⟩ ∧ r.swept = false
  | _ => False

/-! ### What a reset, a fall and a request leave -/

/-- R129, R141: what a fall out of step leaves, but for a warm restart that it brings about (R158). An attempt under way is
cut off. One that has been read back whole is complete: its frame has left its list, and a DEMAND is still to be reported
(the model's choice, log 32). -/
abbrev State.Fallen (s t : State) : Prop :=
  t.line.inStep = false ∧ t.line.inStepCount = 0 ∧ t.line.rx = .hunting ∧ t.line.wire = none ∧ t.line.replies = [] ∧
  t.line.orders = [] ∧ t.line.orderNext = none ∧ t.line.demandNext = none ∧
  t.line.notices = (match s.line.wire with
    | some ⟨.notice, [], false, _⟩ => s.line.notices.drop 1
    | _ => s.line.notices) ∧
  t.line.demandSent = (match s.line.wire with
    | some ⟨.demand, [], false, _⟩ => true
    | _ => s.line.demandSent) ∧
  t.line.demand = (match s.line.demandNext, s.line.wire with
    | some f, _ => some ⟨f, 0⟩
    | none, some ⟨.demand, [], false, _⟩ => none
    | none, _ => s.line.demand) ∧
  t.line.extraWait = (match s.line.wire with
    | some ⟨_, [], false, _⟩ => 0
    | _ => s.line.extraWait) ∧
  t.line.active = s.line.active ∧ t.line.accessCount = s.line.accessCount ∧ t.line.quietRun = s.line.quietRun ∧
  t.line.backoff = s.line.backoff ∧ t.line.listenOnly = s.line.listenOnly ∧
  t.share = (if s.share.state = .isolated then s.share else { s.share with state := .isolated, joinCount := 0 }) ∧
  (s.share.state ≠ .isolated → t.book = []) ∧
  ({ t with line := s.line, share := s.share, book := s.book } : State) = s

/-- R158: the row is WARM_RESTART, or one by which a RESTART, or the report of its reply, can bring one about. -/
abbrev State.MayRestart (s : State) (c : Instr) : Prop :=
  c = .warmRestart ∨ c = .restart ∨
  (s.cip.proc = .restarting ∧ c ∈ [.transmissionComplete, .collision, .lossOfStep, .jabber, .addressClash])

/-- R158: a reply whose report makes a RESTARTING processor's warm restart. -/
abbrev ReplyFrame.Final (f : ReplyFrame) : Prop := f.verb = 8 ∧ f.outcome = .accept

/-- R163, R165: the latch driver after a release request for locker i. -/
def Latch.requested (l : Latch) (i : Nat) (supplyLow : Bool) : Latch :=
  match l.pulse, if i ∈ l.queue then l.queue else l.queue ++ [i] with
  | none, h :: rest => if supplyLow then ⟨h :: rest, none⟩ else ⟨rest, some ⟨h, 0⟩⟩
  | p, queue => ⟨queue, p⟩

/-- The events the receiver reports while it takes these symbols, with nothing of the own on the wire (R123). -/
def receiveAll : Rx → List Sym → List RxEvent
  | _, [] => []
  | rx, sym :: rest =>
    (if (rxStep rx sym false).2 = .none then [] else [(rxStep rx sym false).2]) ++ receiveAll (rxStep rx sym false).1 rest

end Sys2Proof.Machine
end

