-- ==== Sys2Proof/Certificates/Slice0/Obligations.lean ====
section
/-! DEFINITION. The statements for the provers, one for each entry of OBLIGATIONS.json. A statement about a command says
that it completes, what it does, and what it leaves unchanged. -/

open Sys2Proof Sys2Proof.Machine

/-! ### The step -/

/-- A step takes the command at the front of the queue and runs it on the state with the queue's rest. -/
def Obligations.StepRunsFrontCommand : Prop :=
  ∀ (c : Instr) (rest : List Instr) (s : State), s.pending = c :: rest → step s = exec c { s with pending := rest }

/-- The model's choice (log 1, log 4): with no command waiting, a strand that is owed or due is queued, and where
there is none 10 µs pass. They move on the cadences, the scan, the open wait, the ajar timer, the pulse, the bid
windows, the settle timers of doors, trays, keys and power conditions, the keypad's other timers, the beeper, a store
write and the lamp test (R12, R16, R86, R99, R159, R162, R170, R173, R175, R178 to R180, R183, R185, R186, R190). The line
is read for one symbol; where the line pin holds none, that is the symbol the station drives, or QUIET (log 16). Owed are
then the rows of that symbol as one strand, and each row whose cadence has come round (`State.RowOnBeat`: R29, R62, R86,
R183, R186; the lockers' offsets are log 13's).

R123, R127, R128, R135, R136: what one symbol does at the Line Interface, and the rows it brings. The activity count is
held while SETTLED (log 27), a 400th symbol that settles the line brings JABBER too (log 11), and it does not cost the
frame that it completes its row (log 33).

The strands are those owed and, each alone, the rows of `State.RowDue`, no others: the timers at their times (R12, R16,
R99, R159, R166, R170, R173, R175, R178 to R180, R185, R190), and as strands of their own (log 25) the processor's take
(R149), IN_STEP (R128) and an attempt (R134), which is not due while the LINE_ACTIVE of the last symbol is owed. -/
def Obligations.IdleStepRunsClockwork : Prop :=
  (∀ s : State, s.pending = [] →
    (s.strands = [] → ∃ t, step s = .next t ∧ t.pending = [] ∧ t.straps = s.straps ∧ t.ties = s.ties ∧
      t.time.divider = (s.time.divider + 1) % 100000 ∧ t.scanAt = (s.scanAt + 1) % 100000 ∧ t.count = s.count ∧
      t.share = { s.share with cadence := (s.share.cadence + 1) % 25000 } ∧
      t.grant = { s.grant with cadence := (s.grant.cadence + 1) % 100000 } ∧
      t.lamp = { s.lamp with test := s.lamp.test.map (· - 1), cadence := (s.lamp.cadence + 1) % 100 } ∧
      t.pins = { s.pins with line := s.pins.line.drop 1 } ∧
      (∀ i r, s.locker? i = some r → ∃ q, t.locker? i = some q ∧
        ({ q with openWait := r.openWait, ajar := r.ajar, doorSettle := r.doorSettle, traySettle := r.traySettle } :
          Locker) = r ∧
        q.openWait = r.openWait.map (· + 1) ∧ q.ajar = r.ajar.map (· + 1) ∧
        ∀ p, s.pins.lockers[i - 1]? = some p →
          q.doorSettle = (if r.swept = true ∧ p.doorOpen ≠ r.doorOpen then some (r.doorSettle.getD 0 + 1) else none) ∧
          q.traySettle = (if r.swept = true ∧ p.trayPresent ≠ r.trayPresent then some (r.traySettle.getD 0 + 1)
            else none)) ∧
      t.latch = { s.latch with pulse := s.latch.pulse.map fun p => { p with time := p.time + 1 } } ∧
      t.book = (s.book.map fun e => { e with window := e.window + 1 }) ∧
      (t.keypad.scan = s.keypad.scan ∧ t.keypad.buffer = s.keypad.buffer ∧ t.keypad.overlong = s.keypad.overlong ∧
        t.keypad.entryTimer = s.keypad.entryTimer.map (· + 1) ∧ t.keypad.strikes = s.keypad.strikes.map (· + 1) ∧
        t.keypad.lockout = s.keypad.lockout.map (· + 1) ∧
        t.keypad.beeper = (s.keypad.beeper.map fun b => { b with time := b.time + 1 }) ∧
        (s.keypad.scan = .up → ∀ x, s.pins.keys = [x] → t.keypad.scanKey = some x ∧
          t.keypad.settle = if s.keypad.scanKey = some x then s.keypad.settle.map (· + 1) else some 1) ∧
        (s.keypad.scan = .up → (∀ x, s.pins.keys ≠ [x]) → t.keypad.scanKey = none ∧ t.keypad.settle = none) ∧
        (s.keypad.scan ≠ .up → t.keypad.scanKey = s.keypad.scanKey ∧
          t.keypad.settle = if s.pins.keys = [] then some (s.keypad.settle.getD 0 + 1) else none)) ∧
      (t.time.tripSettle = (if s.pins.feederTrip ≠ s.time.feederTrip then some (s.time.tripSettle.getD 0 + 1) else none) ∧
        t.time.supplySettle = (if s.pins.supplyLow ≠ s.time.supplyLow then some (s.time.supplySettle.getD 0 + 1)
          else none) ∧
        ({ t.time with divider := s.time.divider, tripSettle := s.time.tripSettle,
                       supplySettle := s.time.supplySettle } : Timebase) = s.time) ∧
      t.cip = { s.cip with proc := match s.cip.proc with
        | .writing w => .writing { w with time := w.time + 1 }
        | p => p } ∧
      ∀ sym, sym = (match s.pins.line with
          | g :: _ => Sym.ofGroup g
          | [] => s.line.driven.getD .quiet) →
        t.line = (s.line.symbolTime s.own sym).1 ∧
        ∀ x, x ∈ t.owed ↔ (x = (s.line.symbolTime s.own sym).2 ∧ x ≠ []) ∨ ∃ c, x = [c] ∧ t.RowOnBeat c) ∧
    (s.strands ≠ [] → ∃ k t, k < s.strands.length ∧ step s = .next t ∧
      t.pending = (s.strands.getD k []).flatMap s.withMinute ∧ t.owed = s.owed.eraseIdx k ∧
      ({ t with pending := [], owed := s.owed, ties := s.ties } : State) = s)) ∧
  (∀ (l : Line) (own : Nat) (sym : Sym) (m : Line) (rows : List Instr), (m, rows) = l.symbolTime own sym →
    m.active = l.active ∧ m.lastShut1 = decide (sym = .shut1) ∧
    m.accessCount = (if l.active = false ∧ sym = .quiet then l.accessCount + 1 else l.accessCount) ∧
    m.activityCount = (if l.active = true then min 400 (l.activityCount + 1) else l.activityCount) ∧
    m.quietRun = (if l.active = false then l.quietRun else if sym = .quiet then l.quietRun + 1 else 0) ∧
    (.lineActive ∈ rows ↔ l.active = false ∧ sym ≠ .quiet) ∧
    (.jabber ∈ rows ↔ l.active = true ∧ l.activityCount + 1 = 400) ∧
    (.lineSettled ∈ rows ↔ l.active = true ∧
      ((sym = .shut2 ∧ l.lastShut1 = true) ∨ sym = .brk ∨ (sym = .quiet ∧ 32 ≤ l.quietRun + 1))) ∧
    m.inStepCount = (if l.inStep = true then l.inStepCount
      else if l.lineFault = true ∨ sym ≠ .quiet then 0 else min 32 (l.inStepCount + 1)) ∧
    (l.inStep = false → m.rx = l.rx) ∧
    (l.inStep = true → m.rx = (rxStep l.rx sym l.wire.isSome).1 ∧
      ((rxStep l.rx sym l.wire.isSome).2 = .discarded → .frameDiscarded ∈ rows) ∧
      ∀ nibbles echo, (rxStep l.rx sym l.wire.isSome).2 = .complete nibbles echo →
        (judgeFrame own nibbles echo = .discarded → .frameDiscarded ∈ rows) ∧
        (judgeFrame own nibbles echo = .clash → .addressClash ∈ rows) ∧
        ∀ c, judgeFrame own nibbles echo = .delivered c → c ∈ rows) ∧
    (∀ c ∈ rows, c ∈ [.lineActive, .jabber, .lineSettled, .collision, .transmissionComplete] ∨ (l.inStep = true ∧
      ((c = .frameDiscarded ∧ (rxStep l.rx sym l.wire.isSome).2 = .discarded) ∨
        ∃ nibbles echo, (rxStep l.rx sym l.wire.isSome).2 = .complete nibbles echo ∧
          ((c = .frameDiscarded ∧ judgeFrame own nibbles echo = .discarded) ∨
            (c = .addressClash ∧ judgeFrame own nibbles echo = .clash) ∨
            judgeFrame own nibbles echo = .delivered c)))) ∧
    (l.wire = none → m.wire = none ∧ .collision ∉ rows ∧ .transmissionComplete ∉ rows) ∧
    (∀ a, l.wire = some a → a.breaking = false → a.symbols = [] →
      m.wire = some a ∧ .collision ∉ rows ∧ .transmissionComplete ∉ rows) ∧
    (∀ a, l.wire = some a → a.breaking = true → .collision ∈ rows ∧ .transmissionComplete ∉ rows ∧
      m.wire = some { a with settles := l.active && decide (sym = .brk) }) ∧
    (∀ a sent rest, l.wire = some a → a.breaking = false → a.symbols = sent :: rest → .collision ∉ rows ∧
      m.wire = some (if sym = sent then { a with symbols := rest } else { a with breaking := true }) ∧
      (.transmissionComplete ∈ rows ↔ sym = sent ∧ rest = [])) ∧
    ({ m with active := l.active, lastShut1 := l.lastShut1, accessCount := l.accessCount,
              activityCount := l.activityCount, quietRun := l.quietRun, inStepCount := l.inStepCount, rx := l.rx,
              wire := l.wire } : Line) = l) ∧
  (∀ s : State, s.strands = s.owed ++ s.due ∧ ∀ x, x ∈ s.due ↔ ∃ c, x = [c] ∧ s.RowDue c)

/-- The model's choice (log 29): no command ends in a fault or a refusal. The queue of waiting commands stands, and so do
the model's own fields `owed` (log 1) and `ties` (log 4). -/
def Obligations.EveryCommandCompletes : Prop :=
  ∀ (c : Instr) (s : State), ∃ t, Completes c s t ∧ t.pending = s.pending ∧ t.ties = s.ties ∧
    ((∀ p, c ≠ .powerOnReset p) → t.owed = s.owed)

/-! ### Reset -/

/-- R27, R30, R55, R57, R60, R61, R75, R81, R99, R144, R146, R149, R162, R170, R181, R183, R185, R186, R188 to R191:
POWER_ON_RESET. R86, R186: the share tick and the grant round start out of step with the second tick and with each other;
how far is the model's choice (log 13). -/
def Obligations.PowerOnResetSetsEveryBlock : Prop :=
  ∀ (p : Straps) (s : State), ∃ t, Completes (.powerOnReset p) s t ∧
    t.straps = p ∧ t.count = 8 * (p.lockers.toNat + 1) ∧
    (∀ r ∈ t.lockers, r.swept = false ∧ r.state = .vacant ∧ r.phase = .raise ∧ r.order = none ∧ r.voidPending = false ∧
      r.retireReason = none ∧ r.faultReason = none ∧ r.cycle = .none ∧ r.attempts = 0 ∧ r.openWait = none ∧
      r.ajar = none ∧ r.ajarGiven = false ∧ r.ready = false ∧ r.cold = 0 ∧ r.holdAge = 0 ∧ r.keepOn = true ∧
      r.keepCount = 0 ∧ r.temp = 0 ∧ r.seeded = false ∧ r.faultRun = 0 ∧ r.doorOpen = false ∧ r.trayPresent = false ∧
      r.doorSettle = none ∧ r.traySettle = none ∧ r.level = 0) ∧
    (t.time.clock = none ∧ t.time.second = 0 ∧ t.time.flashLit = false ∧ t.time.classes = s.time.store ∧
      t.time.store = s.time.store ∧ t.time.feederTrip = false ∧ t.time.supplyLow = false ∧ t.time.tripSettle = none ∧
      t.time.supplySettle = none) ∧
    (t.latch.queue = [] ∧ t.latch.pulse = none) ∧
    (t.keypad.scan = .up ∧ t.keypad.settle = none ∧ t.keypad.buffer = [] ∧ t.keypad.overlong = false ∧
      t.keypad.entryTimer = none ∧ t.keypad.strikes = [] ∧ t.keypad.lockout = none ∧ t.keypad.beeper = none) ∧
    t.book = [] ∧
    (t.share.peers = [] ∧ t.share.state = .isolated ∧ t.share.joinCount = 0 ∧ t.share.allowance = 0 ∧ t.share.seq = 0 ∧
      t.share.unsentRun = 0 ∧ t.share.sentMark = true ∧ t.share.peerTrip = false ∧ t.share.wallOver = false) ∧
    (t.grant.mask = 0 ∧ t.grant.list = [] ∧ t.grant.pointers = List.replicate 7 0) ∧
    (t.line.inStep = false ∧ t.line.inStepCount = 0 ∧ t.line.rx = .hunting ∧ t.line.active = false ∧
      t.line.accessCount = 0 ∧ t.line.activityCount = 0 ∧ t.line.replies = [] ∧ t.line.orders = [] ∧
      t.line.orderNext = none ∧ t.line.demand = none ∧ t.line.demandNext = none ∧ t.line.demandSent = false ∧
      t.line.notices = [] ∧ t.line.wire = none ∧
      t.line.extraWait = 0 ∧ t.line.backoff.toNat = p.station.toNat ∧ t.line.listenOnly = decide (p.station.toNat = 31)) ∧
    (t.cip.inbox = [] ∧ t.cip.proc = .free) ∧
    (t.lamp.test = none ∧ t.lamp.frame = List.replicate 33 ⟨false, false, false⟩ ∧ t.lamp.cadence = 0) ∧
    (t.time.divider = 0 ∧ t.share.cadence % 25000 ≠ 0 ∧ t.grant.cadence % 25000 ≠ 0 ∧
      t.grant.cadence % 25000 ≠ t.share.cadence % 25000)

/-- R28, R55, R57, R60, R61, R75, R81, R99, R145, R146, R149, R168, R181, R185, R192: WARM_RESTART. -/
def Obligations.WarmRestartTakenByEveryBlock : Prop :=
  ∀ s : State, ∃ t, Completes .warmRestart s t ∧
    t.straps = s.straps ∧ t.time = s.time ∧ t.count = s.count ∧ t.pins = s.pins ∧ t.scanAt = s.scanAt ∧
    (t.latch.queue = [] ∧ t.latch.pulse = none) ∧
    (t.keypad.scan = (if s.pins.keys = [] then .up else .reject) ∧ t.keypad.settle = none ∧ t.keypad.buffer = [] ∧
      t.keypad.overlong = false ∧ t.keypad.entryTimer = none ∧ t.keypad.strikes = [] ∧ t.keypad.lockout = none ∧
      t.keypad.beeper = none) ∧
    t.book = [] ∧
    (t.share.peers = [] ∧ t.share.state = .isolated ∧ t.share.joinCount = 0 ∧ t.share.allowance = 0 ∧
      t.share.seq = s.share.seq ∧ t.share.unsentRun = 0 ∧ t.share.sentMark = true ∧ t.share.peerTrip = false ∧
      t.share.wallOver = false) ∧
    (t.grant.mask = 0 ∧ t.grant.list = [] ∧ t.grant.pointers = List.replicate 7 0) ∧
    (t.line.inStep = false ∧ t.line.inStepCount = 0 ∧ t.line.rx = .hunting ∧ t.line.replies = [] ∧ t.line.orders = [] ∧
      t.line.orderNext = none ∧ t.line.demand = none ∧ t.line.demandNext = none ∧ t.line.demandSent = false ∧
      t.line.wire = none ∧ t.line.extraWait = 0 ∧ t.line.backoff = s.line.backoff ∧
      t.line.listenOnly = s.line.listenOnly ∧ t.line.active = s.line.active ∧
      t.line.accessCount = s.line.accessCount ∧ t.line.activityCount = s.line.activityCount) ∧
    (t.cip.inbox = [] ∧ t.cip.proc = .free) ∧ t.lamp = { s.lamp with test := none }

/-- R28, R6, R7, R21, R49: the records at a warm restart, each recomputed with the phase and the keep cycle it keeps. A
record whose door cycle is neither QUEUED nor PULSING keeps its state and its cycle. The CANCELLED and RETIRED notices join
the emptied notice list in ascending index order. That each record is recomputed is the model's reading (log 30). -/
def Obligations.WarmRestartRevertsRecords : Prop :=
  (∀ s : State, ∃ t, Completes .warmRestart s t ∧ t.line.notices = ((s.indices.filterMap fun i =>
    match s.locker? i, t.locker? i with
    | some r, some q =>
      if r.state = .loading ∧ q.state = .vacant then some (⟨i, .cancelled, .none, r.orderNumber, false⟩ : NoticeFrame)
      else if r.state = .releasing ∧ q.state = .retired then
        q.retireReason.map fun why => ⟨i, .retired, .retire why, r.orderNumber, false⟩
      else none
    | _, _ => none).foldl Line.pushNotice { s.line with notices := [], wire := none }).notices) ∧
  (∀ (i : Nat) (s : State) (r : Locker), s.locker? i = some r →
    ∃ t q, Completes .warmRestart s t ∧ t.locker? i = some q ∧ t.grant.list = [] ∧
      q.swept = r.swept ∧ q.doorOpen = r.doorOpen ∧ q.trayPresent = r.trayPresent ∧ q.temp = r.temp ∧
      q.faultRun = r.faultRun ∧ q.openWait = r.openWait ∧ q.ajar = r.ajar ∧
      (¬ (r.cycle = .queued ∨ r.cycle = .pulsing) →
        q.state = r.state ∧ q.cycle = r.cycle ∧ q.attempts = r.attempts ∧ q.order = r.order ∧ q.cold = r.cold ∧
        q.holdAge = r.holdAge ∧ q.ready = r.ready ∧
        q = r.recomputed s.time.classes s.time.clock s.straps.commission) ∧
      ((r.cycle = .queued ∨ r.cycle = .pulsing) → q.cycle = .none ∧ q.attempts = 0 ∧
        (r.state = .loading → r.voidPending = false → q.state = .reserved ∧ q.order = r.order ∧
          q = ({ r with cycle := .none, attempts := 0, state := .reserved, phase := .raise } : Locker).recomputed
            s.time.classes s.time.clock s.straps.commission) ∧
        (r.state = .loading → r.voidPending = true → q.state = .vacant ∧ q.order = none ∧ q.voidPending = false ∧
          q = { r with
            cycle := .none, state := .vacant, order := none, voidPending := false, retireReason := none,
            faultReason := none, attempts := 0, ready := false, cold := 0, holdAge := 0, phase := .raise, level := 0 }) ∧
        (r.state = .releasing → q = ({ r with
          cycle := .none, attempts := 0, state := q.state, retireReason := q.retireReason, faultReason := q.faultReason,
          voidPending := q.voidPending } : Locker).recomputed s.time.classes s.time.clock s.straps.commission) ∧
        (∀ o c, r.state = .releasing → r.order = some o → r.figures s.time.classes = some c →
          q.order = r.order ∧
          if c.coldLimit ≤ r.cold then q.state = .retired ∧ q.retireReason = some .cold
          else if c.longest * 60 ≤ r.holdAge ∨ ∃ now, s.time.clock = some now ∧ DueAt now ((o.collectBy + c.grace) % 1440)
          then q.state = .retired ∧ q.retireReason = some .expired
          else q.state = .holding) ∧
        ((r.state = .retired ∨ r.state = .fault ∨ r.state = .blocked ∨ r.state = .vacant) →
          q.state = r.state ∧ q.order = r.order ∧
          q = ({ r with cycle := .none, attempts := 0 } : Locker).recomputed s.time.classes s.time.clock
            s.straps.commission)))

/-- The laws of Safety.lean hold right after reset. -/
def Obligations.LawsHoldAtReset : Prop :=
  State.reset.PowerLaw ∧ State.reset.AllowanceLaw ∧ State.reset.TripLaw ∧ State.reset.HeatLaw ∧ State.reset.RecordLaw ∧
  State.reset.OneHolder ∧ State.reset.LatchLaw ∧ State.reset.ListLaw ∧ State.reset.SilentLaw ∧ State.reset.BookLaw ∧
  State.reset.PeerLaw ∧ State.reset.KeypadLaw ∧ State.reset.RangeLaw

/-! ### Laws that every step keeps -/

/-- R71, R92, R93: 8 times the energised heaters is at most A, A is at most U, and both are 0 under a trip. -/
def Obligations.PowerLawsKept : Prop :=
  KeptByStep fun s => s.PowerLaw ∧ s.AllowanceLaw ∧ s.TripLaw

/-- R50, R60, R66, R71: levels forced to 0 are 0, and every listed locker asks for heat and is listed once. So no heater
is energised in a locker whose door is not closed, whose state is VACANT, LOADING, BLOCKED, RETIRED or FAULT, that is at
the cutout, or in COMMISSION. -/
def Obligations.HeatLawKept : Prop :=
  KeptByStep State.HeatLaw ∧
  ∀ s t : State, s.HeatLaw → step s = .next t → ∀ i, t.heaterOut i = true →
    ∃ r, t.locker? i = some r ∧ r.doorOpen = false ∧ r.state ≠ .vacant ∧ r.state ≠ .loading ∧ r.state ≠ .blocked ∧
      r.state ≠ .retired ∧ r.state ≠ .fault ∧ r.temp < 190 ∧ t.straps.commission = false

/-- R2, R3, R7, R8, R15, R17, R27: what holds of every record between steps, and that an order number is held by at
most one record. -/
def Obligations.RecordLawsKept : Prop := KeptByStep fun s => s.RecordLaw ∧ s.OneHolder

/-- R11, R162, R165: the latch queue, the pulse and the records' door cycles agree. -/
def Obligations.LatchLawKept : Prop := KeptByStep State.LatchLaw

/-- R130, R131, R133, R146, R159: the lists stay within their capacities, and an owed reply has room. -/
def Obligations.ListLawKept : Prop := KeptByStep State.ListLaw

/-- R82, R110, R134: a bank out of step or listen-only is ISOLATED, sends nothing and bids for nothing. R99, R101: the
book holds at most 8 entries, one for an order and a candidate, none for a held order. -/
def Obligations.SilentAndBookLawsKept : Prop := KeptByStep State.SilentLaw ∧ KeptByStep State.BookLaw

/-- R75, R76, R79: the Peer Table holds at most 30 entries with F ≤ D ≤ K, fresh below a count of 4 and gone at 20.
R174, R175, R179, R180: the keypad's buffer, strikes and lockout. R57, R61, R95, R186: the ranges of clock, mask, pointers
and sequence. -/
def Obligations.PeerKeypadAndRangeLawsKept : Prop := KeptByStep fun s => s.PeerLaw ∧ s.KeypadLaw ∧ s.RangeLaw

/-! ### Rules of the whole part -/

/-- R1, R2, R143, R186 to R190: until the next power-on reset the straps, N, the swept flags and the listen-only flag
stand and a set clock stays set; and what alone changes the clock, the class table and store, and the power conditions.
R29, R62, R86, R183, R186, R192: no command but POWER_ON_RESET moves a cadence, LAMP_FRAME at its own apart. -/
def Obligations.StandingValuesAreKept : Prop :=
  ∀ (c : Instr) (s t : State), (∀ p, c ≠ .powerOnReset p) → exec c s = .next t →
    t.straps = s.straps ∧ t.count = s.count ∧ (s.time.clock.isSome = true → t.time.clock.isSome = true) ∧
    (s.line.listenOnly = true → t.line.listenOnly = true) ∧
    (∀ i r, s.locker? i = some r → r.swept = true → ∃ q, t.locker? i = some q ∧ q.swept = true) ∧
    (c ≠ .minuteTick → (∀ a m x, c ≠ .time a m x) → t.time.clock = s.time.clock) ∧
    (c ≠ .classWriteEnd → t.time.classes = s.time.classes ∧ t.time.store = s.time.store) ∧
    (c ≠ .feederTripAsserted → c ≠ .feederTripCleared → t.time.feederTrip = s.time.feederTrip) ∧
    (c ≠ .supplyLowAsserted → c ≠ .supplyLowCleared → t.time.supplyLow = s.time.supplyLow) ∧
    t.time.divider = s.time.divider ∧ t.scanAt = s.scanAt ∧ t.share.cadence = s.share.cadence ∧
    t.grant.cadence = s.grant.cadence ∧ (c ≠ .lampFrame → t.lamp.cadence = s.lamp.cadence)

/-- R67, R92: between grant rounds the grant list only loses entries, and between share ticks A stands or becomes 0. R57,
R61, R64: the shed mask changes by SHED and the two resets alone, and the rotation pointers by GRANT_ROUND and the two
resets alone. -/
def Obligations.HeatOnlyFallsBetweenRounds : Prop :=
  ∀ (c : Instr) (s t : State), exec c s = .next t →
    (c ≠ .grantRound → t.grant.list.Sublist s.grant.list) ∧
    (c ≠ .shareTick → t.share.allowance = s.share.allowance ∨ t.share.allowance = 0) ∧
    ((∀ p, c ≠ .powerOnReset p) → ¬ s.MayRestart c →
      ((∀ src mask, c ≠ .shed src mask) → t.grant.mask = s.grant.mask) ∧
      (c ≠ .grantRound → t.grant.pointers = s.grant.pointers)) ∧
    (s.MayRestart c → (t.grant.mask = s.grant.mask ∧ t.grant.pointers = s.grant.pointers) ∨
      (t.grant.mask = 0 ∧ t.grant.pointers = List.replicate 7 0 ∧ t.grant.list = []))

/-- R3, R6: the order part of a record stays as it is until the record enters VACANT. -/
def Obligations.OrderPartStands : Prop :=
  ∀ (c : Instr) (s t : State) (i : Nat) (r : Locker) (o : OrderPart), (∀ p, c ≠ .powerOnReset p) → s.RecordLaw →
    s.locker? i = some r → r.order = some o → exec c s = .next t →
    ∃ q, t.locker? i = some q ∧ (q.order = some o ∨ (q.order = none ∧ q.state = .vacant))

/-! ### Frames on the line (R120 to R126) -/

/-- R121 to R123: a frame of a known kind with its body length, sent by the rules, is complete at its last symbol, and
the receiver reads back its kind, source, destination and body. -/
def Obligations.ReceiverReadsBackFrame : Prop :=
  ∀ (kind src dest : Nat) (body : List Nat), kind < 256 → src < 256 → dest < 256 → (∀ b ∈ body, b < 256) →
    bodyLength kind = some body.length →
    (frameSymbols (kind :: src :: dest :: body)).length = 14 + 2 * body.length ∧
    ∃ nibbles, receiveAll .hunting (frameSymbols (kind :: src :: dest :: body)) = [.complete nibbles false] ∧
      checkedBytes nibbles = some (kind :: src :: dest :: body)

/-- R121, R125, R126: each frame that the bank sends has a known kind with its body length, and another station reads
its fields back from the body. R125, R140: the body of a received OFFER, COMMAND, TIME or SHED, byte by byte. The codes of the named values are those of R126's table, and of R125's for the share
state. -/
def Obligations.SentBodiesReadBack : Prop :=
  (∀ (f : DemandFrame) (src : Nat), f.seq < 256 → f.d < 65536 → f.f < 65536 → f.k < 65536 → f.w < 256 → f.a < 65536 →
    bodyLength f.out.kind = some f.out.body.length ∧
    deliveryOf f.out.kind src 31 f.out.body =
      some (.demand src f.seq f.d f.f f.k f.w f.a f.trip f.isolated f.commission)) ∧
  (∀ (order score locker src : Nat) (loaded : Bool), order < 16777216 → score < 65536 → locker < 256 →
    (let b : OutFrame := (OrderFrame.mk order (.bid score locker)).out
     bodyLength b.kind = some b.body.length ∧ deliveryOf b.kind src 31 b.body = some (.bid src order score locker)) ∧
    (let c : OutFrame := (OrderFrame.mk order (.claim score locker loaded)).out
     bodyLength c.kind = some c.body.length ∧
       deliveryOf c.kind src 31 c.body = some (.claim src order score locker loaded)) ∧
    (let r : OutFrame := (OrderFrame.mk order (.resign locker)).out
     bodyLength r.kind = some r.body.length ∧ deliveryOf r.kind src 31 r.body = some (.resign src order locker))) ∧
  (∀ (f : NoticeFrame) (src : Nat), f.locker < 256 → f.order < 16777216 →
    bodyLength f.out.kind = some f.out.body.length ∧
    deliveryOf f.out.kind src 31 f.out.body =
      some (.notice src f.locker f.event.code f.reason.code f.order f.lapse)) ∧
  (∀ (f : ReplyFrame) (src : Nat), f.verb < 256 → f.locker < 256 → f.state < 256 → f.data.length = 7 →
    (∀ b ∈ f.data, b < 256) →
    bodyLength f.out.kind = some f.out.body.length ∧
    deliveryOf f.out.kind src f.dest f.out.body =
      some (.reply src f.verb f.outcome.code f.reason.code f.locker f.state f.data)) ∧
  (∀ (src dest b₀ b₁ b₂ b₃ b₄ b₅ b₆ : Nat) (ops : List Nat),
    deliveryOf 2 src dest [b₀, b₁, b₂, b₃, b₄, b₅, b₆] =
      some (.offer src (b₀ * 65536 + b₁ * 256 + b₂) b₃ (b₄ * 256 + b₅) b₆) ∧
    deliveryOf 7 src dest (b₀ :: ops) = some (.command src dest b₀ ops) ∧
    deliveryOf 9 src dest [b₀, b₁, b₂] = some (.time src (b₀ * 256 + b₁) b₂) ∧
    deliveryOf 10 src dest [b₀] = some (.shed src b₀)) ∧
  (∀ x ∈ [(NoticeEvent.loaded, 1), (.ready, 2), (.collected, 3), (.returned, 4), (.lapsed, 5), (.cancelled, 6),
    (.retired, 7), (.cleared, 8), (.fault, 9), (.ajar, 10)], x.1.code = x.2) ∧
  (∀ x ∈ [(NoticeReason.none, 0), (.retire .expired, 1), (.retire .cold, 2), (.retire .voided, 3),
    (.retire .unknown, 4), (.fault .probe, 1), (.fault .latch, 2), (.fault .forced, 3), (.fault .tray, 4)],
    x.1.code = x.2) ∧
  (∀ x ∈ [(ReplyOutcome.accept, 0), (.busy, 1), (.refuse, 2)], x.1.code = x.2) ∧
  (∀ x ∈ [(ReplyReason.none, 0), (.unknownOrder, 1), (.wrongState, 2), (.noSuchLocker, 3), (.badValue, 4),
    (.superseded, 5), (.notInService, 6), (.notCommissioning, 7)], x.1.code = x.2) ∧
  (∀ x ∈ [(LockerState.vacant, 0), (.reserved, 1), (.loading, 2), (.holding, 3), (.releasing, 4), (.retired, 5),
    (.blocked, 6), (.fault, 7)], x.1.code = x.2) ∧
  (∀ x ∈ [(ShareState.isolated, 0), (.joining, 1), (.sharing, 2)], x.1.code = x.2)

/-- R122, R123, R125: a frame with an odd number of data symbols, with fewer than 5 bytes, of no known kind, with another
body length than its kind's, or with a bad check is discarded; so is one broken off by another symbol, and one at its 35th
data symbol. R124: the filters of a frame whose tests are good: own echo, source, address clash, destination, delivery. -/
def Obligations.FiltersJudgeFrames : Prop :=
  (∀ (own : Nat) (nibbles : List Nibble) (echo : Bool), (nibbles.length % 2 = 1 ∨ nibbles.length < 10) →
    judgeFrame own nibbles echo = .discarded) ∧
  (∀ (own : Nat) (nibbles : List Nibble) (echo : Bool) (kind src dest c₁ c₂ : Nat) (body : List Nat),
    (∀ n ∈ kind :: src :: dest :: body ++ [c₁, c₂], n < 256) →
    nibbles = ((kind :: src :: dest :: body ++ [c₁, c₂]).flatMap fun n => [BitVec.ofNat 4 (n / 16), BitVec.ofNat 4 n]) →
    ((kind, body.length) ∉ [(1, 11), (2, 7), (3, 6), (4, 7), (5, 4), (6, 7), (7, 10), (8, 12), (9, 3), (10, 1)] ∨
      c₁ * 256 + c₂ ≠ (checkOf (kind :: src :: dest :: body)).toNat) →
    judgeFrame own nibbles echo = .discarded) ∧
  (∀ (nibbles : List Nibble) (echo onWire : Bool) (sym : Sym),
    (∀ v, sym = .data v → rxStep (.frame nibbles false echo) sym onWire =
      if nibbles.length < 34 then (.frame (nibbles ++ [v]) false echo, .none) else (.hunting, .discarded)) ∧
    ((∀ v, sym ≠ .data v) → sym ≠ .shut1 → rxStep (.frame nibbles false echo) sym onWire =
      (if sym = .open1 then .opened onWire else .hunting, .discarded)) ∧
    (sym ≠ .shut2 → rxStep (.frame nibbles true echo) sym onWire =
      (if sym = .open1 then .opened onWire else .hunting, .discarded))) ∧
  (∀ (own : Nat) (nibbles : List Nibble) (echo : Bool) (kind src dest : Nat) (body : List Nat),
    checkedBytes nibbles = some (kind :: src :: dest :: body) →
    (echo = true → judgeFrame own nibbles echo = .ownEcho) ∧
    (echo = false → 30 < src → judgeFrame own nibbles echo = .discarded) ∧
    (echo = false → src ≤ 30 → src = own → judgeFrame own nibbles echo = .clash) ∧
    (echo = false → src ≤ 30 → src ≠ own → dest ≠ own → dest ≠ 31 → judgeFrame own nibbles echo = .discarded) ∧
    (echo = false → src ≤ 30 → src ≠ own → (dest = own ∨ dest = 31) →
      ∃ c, deliveryOf kind src dest body = some c ∧ judgeFrame own nibbles echo = .delivered c))

/-! ### Probe samples and first readings -/

/-- R31, R32, R49, R66: PROBE_SAMPLE of a swept locker, at S, the seeded flag, the probe fault run, the phase and the
level. -/
def Obligations.ProbeSampleSmooths : Prop :=
  ∀ (i raw : Nat) (s : State) (r : Locker), s.locker? i = some r → r.swept = true →
    ∃ t q, Completes (.probeSample i raw) s t ∧ t.locker? i = some q ∧
      (if raw = 0 ∨ raw = 255 then q.temp = r.temp ∧ q.seeded = r.seeded ∧ q.faultRun = min 3 (r.faultRun + 1)
       else q.faultRun = 0 ∧ q.seeded = true ∧ q.temp = if r.seeded then (3 * r.temp + raw + 2) / 4 else raw) ∧
      (r.seeded = true → 1 ≤ r.temp → r.temp ≤ 254 → raw ≤ 255 → 1 ≤ q.temp ∧ q.temp ≤ 254) ∧
      q.order = r.order ∧ q.cold = r.cold ∧ q.holdAge = r.holdAge ∧ q.doorOpen = r.doorOpen ∧
      q.trayPresent = r.trayPresent ∧ q.openWait = r.openWait ∧ q.ajar = r.ajar ∧ t.Recomputed i r.phase ∧
      (q.phase = r.phase → q.keepOn = r.keepOn ∧ q.keepCount = r.keepCount) ∧ s.OthersKept t i ∧ s.LockerSideOnly t

/-- R15, R33, R40, R49: what the Locker Controller makes of a sample result: the third fault sample, else readiness. -/
def Obligations.ProbeSampleFaultsOrReadies : Prop :=
  ∀ (i raw : Nat) (s : State) (r : Locker), s.locker? i = some r → r.swept = true →
    ∃ t q, Completes (.probeSample i raw) s t ∧ t.locker? i = some q ∧
      ((raw = 0 ∨ raw = 255) ∧ 2 ≤ r.faultRun ∧ r.state ≠ .blocked ∧ r.state ≠ .fault →
        q.state = .fault ∧ q.faultReason = some .probe ∧ q.retireReason = none ∧ q.voidPending = false ∧
        q.order = r.order ∧ q.level = 0 ∧ i ∉ t.grant.list ∧
        t.line = s.line.pushNotice ⟨i, .fault, .fault .probe, r.orderNumber, false⟩ ∧
        (if (r.state = .loading ∨ r.state = .releasing) ∧ r.cycle = .queued then
          q.cycle = .none ∧ q.attempts = 0 ∧ t.latch = ⟨s.latch.queue.filter (· != i), s.latch.pulse⟩
         else q.cycle = r.cycle ∧ q.attempts = r.attempts ∧ t.latch = s.latch)) ∧
      (¬ ((raw = 0 ∨ raw = 255) ∧ 2 ≤ r.faultRun ∧ r.state ≠ .blocked ∧ r.state ≠ .fault) →
        q.state = r.state ∧ q.cycle = r.cycle ∧ t.latch = s.latch ∧
        ((r.state = .holding ∨ r.state = .releasing) ∧ r.ready = false ∧
            (∃ c, r.figures s.time.classes = some c ∧ c.target ≤ q.temp) →
          q.ready = true ∧ t.line = s.line.pushNotice ⟨i, .ready, .none, r.orderNumber, false⟩) ∧
        (¬ ((r.state = .holding ∨ r.state = .releasing) ∧ r.ready = false ∧
            (∃ c, r.figures s.time.classes = some c ∧ c.target ≤ q.temp)) →
          q.ready = r.ready ∧ t.line = s.line)) ∧
      t.Recomputed i r.phase

/-- R27, R31, R32, R172: FIRST_SWEEP_READING of a record as the power-on reset left it. -/
def Obligations.FirstSweepReadingSetsRecord : Prop :=
  ∀ (i raw : Nat) (door tray : Bool) (s : State), s.locker? i = some Locker.init →
    ∃ t, Completes (.firstSweepReading i door tray raw) s t ∧
      t.locker? i = some { Locker.init with
        swept := true, doorOpen := door, trayPresent := tray,
        state := if tray then .retired else .vacant, retireReason := if tray then some .unknown else none,
        cycle := if door then .opened else .none, ajar := if door then some 0 else none,
        temp := if raw = 0 ∨ raw = 255 then 0 else raw, seeded := decide (raw ≠ 0 ∧ raw ≠ 255),
        faultRun := if raw = 0 ∨ raw = 255 then 1 else 0 } ∧
      t.line = (if tray then s.line.pushNotice ⟨i, .retired, .retire .unknown, 0, false⟩ else s.line) ∧
      t.latch = s.latch ∧ i ∉ t.grant.list ∧ s.OthersKept t i ∧ s.LockerSideOnly t

/-- R49 to R53: the phase and the level that a recomputation gives a record. -/
def Obligations.RecomputationGivesLevel : Prop :=
  ∀ (r : Locker) (classes : List (Option ClassEntry)) (clock : Option Nat) (commission : Bool) (o : OrderPart)
    (c : ClassEntry), r.order = some o → r.figures classes = some c →
    ∃ q, q = r.recomputed classes clock commission ∧
      ({ q with phase := r.phase, keepOn := r.keepOn, keepCount := r.keepCount, level := r.level } : Locker) = r ∧
      (if r.state = .reserved ∨ r.state = .holding ∨ r.state = .releasing then
        (if r.phase = .raise ∧ c.target ≤ r.temp then q.phase = .keep ∧ q.keepOn = true ∧ q.keepCount = 0
         else q.keepOn = r.keepOn ∧ q.keepCount = r.keepCount ∧
          q.phase = if r.phase = .keep ∧ r.temp + 2 < c.target then .raise else r.phase)
       else q.phase = r.phase ∧ q.keepOn = r.keepOn ∧ q.keepCount = r.keepCount) ∧
      (r.doorOpen = true ∨ r.state = .vacant ∨ r.state = .loading ∨ r.state = .blocked ∨ r.state = .retired ∨
        r.state = .fault ∨ 190 ≤ r.temp ∨ commission = true → q.level = 0) ∧
      (r.doorOpen = false → r.temp < 190 → commission = false →
        (r.state = .reserved ∨ r.state = .holding ∨ r.state = .releasing) →
        ∀ m, (match clock with
          | none => m = 720
          | some now => if DueAt now o.collectBy then m = 0 else (m : Int) = ((o.collectBy : Int) - now) % 1440) →
        q.level =
          if q.phase = .keep then (if q.keepOn then 1 else 0)
          else if r.state = .reserved then (if m ≤ 10 then 3 else 2)
          else if r.temp < c.floor then (if c.coldLimit / 2 ≤ r.cold then 7 else 6)
          else if m ≤ 5 then 5 else 4)

/-! ### Doors and trays -/

/-- R13: DOOR_OPENED of a record that is PULSING or AWAIT-OPEN completes the release. -/
def Obligations.ReleasedOpeningOpensCycle : Prop :=
  ∀ (i : Nat) (s : State) (r : Locker), s.locker? i = some r → r.swept = true → r.doorOpen = false →
    (r.cycle = .pulsing ∨ r.cycle = .awaitOpen) →
    ∃ t q, Completes (.doorOpened i) s t ∧ t.locker? i = some q ∧
      ({ q with phase := r.phase, keepOn := r.keepOn, keepCount := r.keepCount } : Locker) =
        { r with doorOpen := true, doorSettle := none, cycle := .opened, openWait := none, ajar := some 0,
                 ajarGiven := false, level := 0 } ∧
      t.latch = s.latch ∧ t.line = s.line ∧ t.grant = { s.grant with list := s.grant.list.filter (· != i) } ∧
      s.OthersKept t i ∧ s.LockerSideOnly t

/-- R9, R14: DOOR_OPENED of a record whose door cycle is NONE or QUEUED is forced, but for a BLOCKED record. -/
def Obligations.ForcedOpeningFaults : Prop :=
  ∀ (i : Nat) (s : State) (r : Locker), s.locker? i = some r → r.swept = true → r.doorOpen = false →
    (r.cycle = .none ∨ r.cycle = .queued) →
    ∃ t q, Completes (.doorOpened i) s t ∧ t.locker? i = some q ∧
      q.doorOpen = true ∧ q.ajar = some 0 ∧ q.ajarGiven = false ∧ q.order = r.order ∧ q.cold = r.cold ∧
      q.holdAge = r.holdAge ∧ q.ready = r.ready ∧ q.temp = r.temp ∧ q.level = 0 ∧
      t.latch = ⟨s.latch.queue.filter (· != i), s.latch.pulse⟩ ∧
      t.grant = { s.grant with list := s.grant.list.filter (· != i) } ∧
      (r.state = .blocked → q.state = .blocked ∧ q.cycle = .opened ∧ t.line = s.line) ∧
      (r.state ≠ .blocked → q.state = .fault ∧ q.faultReason = some .forced ∧ q.cycle = .none ∧ q.attempts = 0 ∧
        (r.state ≠ .fault → q.retireReason = none ∧ q.voidPending = false) ∧
        t.line = if r.state = .fault ∧ r.faultReason = some .forced then s.line
          else s.line.pushNotice ⟨i, .fault, .fault .forced, r.orderNumber, false⟩) ∧
      s.OthersKept t i ∧ s.LockerSideOnly t

/-- R17 to R19, R49, R66: DOOR_CLOSED that ends the cycle of a LOADING record. -/
def Obligations.LoadCloseHoldsOrReverts : Prop :=
  ∀ (i : Nat) (s : State) (r : Locker) (o : OrderPart) (c : ClassEntry), s.locker? i = some r → r.swept = true →
    r.doorOpen = true → r.cycle = .opened → r.state = .loading → r.order = some o →
    r.figures s.time.classes = some c →
    ∃ t q, Completes (.doorClosed i) s t ∧ t.locker? i = some q ∧
      q.doorOpen = false ∧ q.ajar = none ∧ q.cycle = .none ∧ q.attempts = 0 ∧ q.temp = r.temp ∧
      q.trayPresent = r.trayPresent ∧ t.latch = s.latch ∧ s.OthersKept t i ∧ s.LockerSideOnly t ∧
      t.Recomputed i (if r.trayPresent = true ∧ r.voidPending = true then r.phase else .raise) ∧
      (r.trayPresent = true → r.voidPending = false →
        q.state = .holding ∧ q.order = some o ∧ q.cold = 0 ∧ q.holdAge = 0 ∧ q.ready = false ∧
        (if c.target ≤ r.temp then q.phase = .keep ∧ q.keepOn = true ∧ q.keepCount = 0 else q.phase = .raise) ∧
        t.line = s.line.pushNotice ⟨i, .loaded, .none, o.order, false⟩) ∧
      (r.trayPresent = true → r.voidPending = true →
        q.state = .retired ∧ q.retireReason = some .voided ∧ q.faultReason = none ∧ q.voidPending = false ∧
        q.order = some o ∧ q.level = 0 ∧ i ∉ t.grant.list ∧
        t.line = s.line.pushNotice ⟨i, .retired, .retire .voided, o.order, false⟩) ∧
      (r.trayPresent = false → r.voidPending = false →
        q.state = .reserved ∧ q.order = some o ∧ t.line = s.line ∧
        q.phase = if c.target ≤ r.temp then .keep else .raise) ∧
      (r.trayPresent = false → r.voidPending = true →
        q.state = .vacant ∧ q.order = none ∧ q.voidPending = false ∧ q.retireReason = none ∧ q.faultReason = none ∧
        q.ready = false ∧ q.cold = 0 ∧ q.holdAge = 0 ∧ q.phase = .raise ∧ q.level = 0 ∧ i ∉ t.grant.list ∧
        t.line = s.line.pushNotice ⟨i, .cancelled, .none, o.order, false⟩)

/-- R6, R17, R20, R21, R44, R49, R66: DOOR_CLOSED that ends the cycle of a RELEASING record. -/
def Obligations.ReleaseCloseCollectsOrReturns : Prop :=
  ∀ (i : Nat) (s : State) (r : Locker) (o : OrderPart) (c : ClassEntry), s.locker? i = some r → r.swept = true →
    r.doorOpen = true → r.cycle = .opened → r.state = .releasing → r.order = some o →
    r.figures s.time.classes = some c →
    ∃ t q, Completes (.doorClosed i) s t ∧ t.locker? i = some q ∧
      q.doorOpen = false ∧ q.ajar = none ∧ q.cycle = .none ∧ q.attempts = 0 ∧ q.temp = r.temp ∧ t.latch = s.latch ∧
      s.OthersKept t i ∧ s.LockerSideOnly t ∧ t.Recomputed i (if r.trayPresent then r.phase else .raise) ∧
      (r.trayPresent = false →
        q.state = .vacant ∧ q.order = none ∧ q.voidPending = false ∧ q.retireReason = none ∧ q.faultReason = none ∧
        q.ready = false ∧ q.cold = 0 ∧ q.holdAge = 0 ∧ q.phase = .raise ∧ q.level = 0 ∧ i ∉ t.grant.list ∧
        t.line = s.line.pushNotice ⟨i, .collected, .none, o.order, false⟩) ∧
      (r.trayPresent = true →
        q.order = some o ∧ q.ready = r.ready ∧ q.cold = r.cold ∧ q.holdAge = r.holdAge ∧
        (if c.coldLimit ≤ r.cold then q.state = .retired ∧ q.retireReason = some .cold ∧
            t.line = (s.line.pushNotice ⟨i, .returned, .none, o.order, false⟩).pushNotice
              ⟨i, .retired, .retire .cold, o.order, false⟩
         else if c.longest * 60 ≤ r.holdAge ∨ ∃ now, s.time.clock = some now ∧ DueAt now ((o.collectBy + c.grace) % 1440)
         then q.state = .retired ∧ q.retireReason = some .expired ∧
            t.line = (s.line.pushNotice ⟨i, .returned, .none, o.order, false⟩).pushNotice
              ⟨i, .retired, .retire .expired, o.order, false⟩
         else q.state = .holding ∧ t.line = s.line.pushNotice ⟨i, .returned, .none, o.order, false⟩))

/-- R17, R22, R23, R49, R66: DOOR_CLOSED of a record that is RETIRED, FAULT, BLOCKED or VACANT, and a close that ends no
cycle. -/
def Obligations.OtherClosesClearOrRetire : Prop :=
  ∀ (i : Nat) (s : State) (r : Locker), s.locker? i = some r → r.swept = true → r.doorOpen = true →
    ∃ t q, Completes (.doorClosed i) s t ∧ t.locker? i = some q ∧
      q.doorOpen = false ∧ q.ajar = none ∧ t.latch = s.latch ∧ s.OthersKept t i ∧ s.LockerSideOnly t ∧
      (r.cycle ≠ .opened ∨ (r.state ≠ .loading ∧ r.state ≠ .releasing) → t.Recomputed i
        (if r.cycle = .opened ∧ (r.state = .retired ∨ r.state = .fault) ∧ r.trayPresent = false then .raise
          else r.phase)) ∧
      (r.cycle = .none → q.cycle = .none ∧ q.state = r.state ∧ q.order = r.order ∧ t.line = s.line) ∧
      (r.cycle = .opened → q.cycle = .none ∧ q.attempts = 0) ∧
      (r.cycle = .opened → (r.state = .retired ∨ r.state = .fault) → r.trayPresent = false →
        q.state = .vacant ∧ q.order = none ∧ q.retireReason = none ∧ q.faultReason = none ∧ q.cold = 0 ∧
        q.holdAge = 0 ∧ t.line = s.line.pushNotice ⟨i, .cleared, .none, r.orderNumber, false⟩) ∧
      (r.cycle = .opened → (r.state = .retired ∨ r.state = .fault) → r.trayPresent = true →
        q.state = r.state ∧ q.order = r.order ∧ q.retireReason = r.retireReason ∧ q.faultReason = r.faultReason ∧
        t.line = s.line) ∧
      (r.cycle = .opened → r.state = .blocked → q.state = .blocked ∧ t.line = s.line) ∧
      (r.cycle = .opened → r.state = .vacant → r.trayPresent = false → q.state = .vacant ∧ t.line = s.line) ∧
      (r.cycle = .opened → r.state = .vacant → r.trayPresent = true → r.order = none →
        q.state = .retired ∧ q.retireReason = some .unknown ∧ q.order = none ∧
        t.line = s.line.pushNotice ⟨i, .retired, .retire .unknown, 0, false⟩)

/-- R24: TRAY_APPEARED and TRAY_REMOVED. -/
def Obligations.TrayChangeBehindClosedDoorFaults : Prop :=
  ∀ (i : Nat) (present : Bool) (s : State) (r : Locker), s.locker? i = some r → r.swept = true →
    r.trayPresent = !present →
    ∃ t q, Completes (if present then .trayAppeared i else .trayRemoved i) s t ∧ t.locker? i = some q ∧
      q.trayPresent = present ∧ q.order = r.order ∧ q.cycle = r.cycle ∧ q.doorOpen = r.doorOpen ∧ q.temp = r.temp ∧
      t.latch = s.latch ∧ s.OthersKept t i ∧ s.LockerSideOnly t ∧
      (r.doorOpen = false → r.cycle = .none →
        (r.state = .vacant ∨ r.state = .reserved ∨ (r.state = .holding ∧ present = false)) →
        q.state = .fault ∧ q.faultReason = some .tray ∧ q.retireReason = none ∧ q.voidPending = false ∧ q.level = 0 ∧
        i ∉ t.grant.list ∧ t.line = s.line.pushNotice ⟨i, .fault, .fault .tray, r.orderNumber, false⟩) ∧
      ((r.doorOpen = true ∨ r.cycle ≠ .none ∨ r.state = .retired ∨ r.state = .fault ∨ r.state = .blocked) →
        q = { r with trayPresent := present, traySettle := none } ∧ t.line = s.line ∧ t.grant = s.grant)

/-- R12, R16: AJAR and OPEN_WAIT_EXPIRED, for timers that run. -/
def Obligations.DoorTimersExpire : Prop :=
  (∀ (i : Nat) (s : State) (r : Locker), s.locker? i = some r → r.ajar.isSome = true → r.ajarGiven = false →
    ∃ t, Completes (.ajar i) s t ∧ t.locker? i = some { r with ajar := none, ajarGiven := true } ∧
      t.line = s.line.pushNotice ⟨i, .ajar, .none, r.orderNumber, false⟩ ∧ t.latch = s.latch ∧ t.grant = s.grant ∧
      s.OthersKept t i ∧ s.LockerSideOnly t) ∧
  (∀ (i : Nat) (s : State) (r : Locker), s.locker? i = some r → r.cycle = .awaitOpen →
    ∃ t q, Completes (.openWaitExpired i) s t ∧ t.locker? i = some q ∧ q.openWait = none ∧ q.order = r.order ∧
      (r.attempts = 0 → q.attempts = 1 ∧ q.state = r.state ∧ t.line = s.line ∧ t.grant = s.grant ∧
        t.latch = s.latch.requested i s.time.supplyLow ∧
        q.cycle = (if t.latch.pulse = some ⟨i, 0⟩ ∧ s.latch.pulse = none then .pulsing else .queued) ∧
        ∀ j x, j ≠ i → s.locker? j = some x → t.locker? j = some x ∨
          (x.cycle = .queued ∧ t.latchSelect j = true ∧ t.locker? j = some { x with cycle := .pulsing })) ∧
      (r.attempts ≠ 0 → q.state = .fault ∧ q.faultReason = some .latch ∧ q.cycle = .none ∧ q.attempts = 0 ∧
        q.level = 0 ∧ i ∉ t.grant.list ∧ t.latch = s.latch ∧ s.OthersKept t i ∧
        t.line = if r.state = .fault ∧ r.faultReason = some .latch then s.line
          else s.line.pushNotice ⟨i, .fault, .fault .latch, r.orderNumber, false⟩) ∧
      s.LockerSideOnly t)

/-- R11, R165, R166, R167: PULSE_ENDED. -/
def Obligations.PulseEndServesNextHead : Prop :=
  ∀ (s : State) (p : Pulse), s.latch.pulse = some p →
    ∃ t, Completes .pulseEnded s t ∧
      t.latch = (match s.latch.queue with
        | [] => ⟨[], none⟩
        | h :: rest => if s.time.supplyLow then ⟨h :: rest, none⟩ else ⟨rest, some ⟨h, 0⟩⟩) ∧
      (∀ j r, s.locker? j = some r → ∃ q, t.locker? j = some q ∧
        ({ q with cycle := r.cycle, openWait := r.openWait } : Locker) = r ∧
        (if j = p.locker ∧ r.cycle = .pulsing then q.cycle = .awaitOpen ∧ q.openWait = some 0
         else q.openWait = r.openWait ∧
          q.cycle = if s.time.supplyLow = false ∧ s.latch.queue.head? = some j ∧ r.cycle = .queued then .pulsing
            else r.cycle)) ∧
      t.count = s.count ∧ ({ t with lockers := s.lockers, latch := s.latch } : State) = s

/-! ### Ticks and the clock -/

/-- R36, R37, R38, R39, R49, R54, R66, R186: SECOND_TICK at the second count and at each record, and at the keep cycle of a
record in KEEP that goes on in RESERVED, HOLDING or RELEASING. That every record is recomputed is the model's reading
(log 30). -/
def Obligations.SecondTickCountsAndRetires : Prop :=
  (∀ s : State, ∃ t, Completes .secondTick s t ∧
    t.time = { s.time with second := if s.time.second < 59 then s.time.second + 1 else 0, flashLit := true } ∧
    ({ t with time := s.time, lockers := s.lockers, line := s.line, grant := s.grant } : State) = s ∧
    t.count = s.count ∧
    ∀ i r, s.locker? i = some r → ∃ q, t.locker? i = some q ∧
      q.order = r.order ∧ q.ready = r.ready ∧ q.cycle = r.cycle ∧ q.temp = r.temp ∧ q.doorOpen = r.doorOpen ∧
      t.Recomputed i r.phase ∧
      (r.state ≠ .holding → r.state ≠ .releasing → q.state = r.state ∧ q.cold = r.cold ∧ q.holdAge = r.holdAge) ∧
      (∀ c, r.figures s.time.classes = some c → (r.state = .holding ∨ r.state = .releasing) →
        q.holdAge = (if r.holdAge < c.longest * 60 then r.holdAge + 1 else r.holdAge) ∧
        q.cold = (if r.temp < c.floor ∧ r.cold < c.coldLimit then r.cold + 1 else r.cold) ∧
        (r.state = .releasing → q.state = .releasing) ∧
        (r.state = .holding →
          if c.coldLimit ≤ q.cold then q.state = .retired ∧ q.retireReason = some .cold
          else if c.longest * 60 ≤ q.holdAge then q.state = .retired ∧ q.retireReason = some .expired
          else q.state = .holding))) ∧
  (∀ (s : State) (i : Nat) (r : Locker) (c : ClassEntry), s.locker? i = some r → r.phase = .keep →
    r.figures s.time.classes = some c →
    ∃ t q, Completes .secondTick s t ∧ t.locker? i = some q ∧
      ((q.state = .reserved ∨ q.state = .holding ∨ q.state = .releasing) →
        (q.keepOn, q.keepCount) =
          if r.keepCount + 1 = (if r.keepOn then c.keepOn else c.keepOff) then (!r.keepOn, 0)
          else (r.keepOn, r.keepCount + 1)) ∧
      (¬ (q.state = .reserved ∨ q.state = .holding ∨ q.state = .releasing) →
        q.keepOn = r.keepOn ∧ q.keepCount = r.keepCount) ∧
      (q.level = 0 → i ∉ t.grant.list))

/-- R45, R46, R47, R49, R66, R186: MINUTE_TICK at the clock and at each record. While the clock is UNSET no record changes
its state (R44). That every record is recomputed is the model's reading (log 30). -/
def Obligations.MinuteTickLapsesAndExpires : Prop :=
  ∀ s : State, ∃ t, Completes .minuteTick s t ∧
    t.time = { s.time with second := 0, clock := s.time.clock.map fun m => (m + 1) % 1440 } ∧
    ({ t with time := s.time, lockers := s.lockers, line := s.line, grant := s.grant } : State) = s ∧
    t.count = s.count ∧
    ∀ i r, s.locker? i = some r → ∃ q, t.locker? i = some q ∧ q.cycle = r.cycle ∧ q.temp = r.temp ∧
      t.Recomputed i (if r.state = .reserved ∧ q.state = .vacant then .raise else r.phase) ∧
      (∀ o now, r.state = .reserved → r.order = some o → t.time.clock = some now → DueAt now o.collectBy →
        q.state = .vacant ∧ q.order = none ∧ q.phase = .raise) ∧
      (∀ o c now, r.state = .holding → r.order = some o → r.figures s.time.classes = some c →
        t.time.clock = some now → DueAt now ((o.collectBy + c.grace) % 1440) →
        q.state = .retired ∧ q.retireReason = some .expired ∧ q.order = r.order ∧ q.cold = r.cold ∧
        q.holdAge = r.holdAge) ∧
      ((t.time.clock = none ∨ (r.state ≠ .reserved ∧ r.state ≠ .holding) ∨
          (∃ o now, r.state = .reserved ∧ r.order = some o ∧ t.time.clock = some now ∧ ¬ DueAt now o.collectBy) ∨
          (∃ o c now, r.state = .holding ∧ r.order = some o ∧ r.figures s.time.classes = some c ∧
            t.time.clock = some now ∧ ¬ DueAt now ((o.collectBy + c.grace) % 1440))) →
        q.state = r.state ∧ q.order = r.order ∧ q.cold = r.cold ∧ q.holdAge = r.holdAge ∧ q.ready = r.ready)

/-- R37, R47: the notices of a tick join the notice list in ascending index order. -/
def Obligations.TickNoticesInIndexOrder : Prop :=
  (∀ s : State, ∃ t, Completes .secondTick s t ∧ t.line = (s.indices.filterMap fun i =>
    match s.locker? i, t.locker? i with
    | some r, some q => if r.state = .holding ∧ q.state = .retired then
        q.retireReason.map fun why => (⟨i, .retired, .retire why, r.orderNumber, false⟩ : NoticeFrame) else none
    | _, _ => none).foldl Line.pushNotice s.line) ∧
  (∀ s : State, ∃ t, Completes .minuteTick s t ∧ t.line = (s.indices.filterMap fun i =>
    match s.locker? i, t.locker? i with
    | some r, some q =>
      if r.state = .reserved ∧ q.state = .vacant then some (⟨i, .lapsed, .none, r.orderNumber, false⟩ : NoticeFrame)
      else if r.state = .holding ∧ q.state = .retired then some ⟨i, .retired, .retire .expired, r.orderNumber, false⟩
      else none
    | _, _ => none).foldl Line.pushNotice s.line)

/-- R48, R49, R66, R187: TIME. That every record is recomputed is the model's reading (log 30). -/
def Obligations.TimeFrameSetsClock : Prop :=
  ∀ (src minute second : Nat) (s : State), ∃ t, Completes (.time src minute second) s t ∧
    (¬ (minute ≤ 1439 ∧ second ≤ 59) → t = s) ∧
    (minute ≤ 1439 → second ≤ 59 →
      t.time = { s.time with clock := some minute, second := second } ∧ t.count = s.count ∧
      (∀ i, t.locker? i =
        (s.locker? i).map fun r => r.recomputed s.time.classes (some minute) s.straps.commission) ∧
      (∀ i ∈ s.grant.list, (i ∈ t.grant.list ↔ ∀ q, t.locker? i = some q → q.level ≠ 0)) ∧
      t.grant.list.Sublist s.grant.list ∧ t.grant = { s.grant with list := t.grant.list } ∧
      ({ t with time := s.time, lockers := s.lockers, grant := s.grant } : State) = s)

/-! ### Lamps -/

/-- R183 to R186: LAMP_FRAME, LAMP_TEST_END and FLASH_PHASE, and the outputs LAMP DATA and LAMP STROBE: red, green and
amber of each position in turn, and the strobe after the 99th bit. That LAMP_FRAME strobes the frame under way and begins the
next is the model's choice (log 12). -/
def Obligations.LampCommandsShowState : Prop :=
  (∀ s : State, ∃ t, Completes .lampFrame s t ∧
    ({ t with lamp := s.lamp } : State) = s ∧ t.lamp.test = s.lamp.test ∧ t.lamp.shown = s.lamp.frame ∧
    t.lamp.cadence = 0 ∧ t.lamp.frame.length = 33 ∧
    (s.lamp.test.isSome = true → ∀ p ∈ t.lamp.frame, p = ⟨true, true, true⟩) ∧
    (s.lamp.test = none →
      (∀ k, k < 32 → t.lamp.frame[k]? = some (match s.locker? (k + 1) with
        | none => ⟨false, false, false⟩
        | some r => match r.state with
          | .vacant => ⟨false, false, false⟩
          | .reserved => ⟨false, false, true⟩
          | .loading => ⟨false, false, true⟩
          | .holding => ⟨false, r.ready, !r.ready⟩
          | .releasing => ⟨false, s.time.flashLit, false⟩
          | .retired => ⟨true, false, false⟩
          | .blocked => ⟨true, false, false⟩
          | .fault => ⟨s.time.flashLit, false, false⟩)) ∧
      t.lamp.frame[32]? = some (
        if s.line.listenOnly then ⟨s.time.flashLit, false, false⟩
        else if s.straps.commission then ⟨true, false, false⟩
        else if s.time.feederTrip ∨ s.time.supplyLow then ⟨false, false, true⟩
        else if s.share.state = .sharing then ⟨false, true, false⟩
        else ⟨false, false, s.time.flashLit⟩))) ∧
  (∀ s : State, Completes .lampTestEnd s { s with lamp := { s.lamp with test := none } }) ∧
  (∀ s : State, Completes .flashPhase s { s with time := { s.time with flashLit := false } }) ∧
  (∀ s : State, (s.lampStrobe = true ↔ s.lamp.cadence = 99) ∧
    (∀ k p, k < 33 → s.lamp.frame[k]? = some p →
      (s.lamp.cadence = 3 * k → s.lampData = p.red) ∧ (s.lamp.cadence = 3 * k + 1 → s.lampData = p.green) ∧
      (s.lamp.cadence = 3 * k + 2 → s.lampData = p.amber)))

/-! ### Transmit lists (R131 to R133) -/

/-- R131, R132, R133, R138, R143: a frame handed to the order list, the DEMAND slot and the notice list. -/
def Obligations.ListsTakeFrames : Prop :=
  (∀ (l : Line) (f : OrderFrame), (l.inStep = false ∨ l.listenOnly = true) → l.handOrder f = l) ∧
  (∀ (l : Line) (f : OrderFrame), l.inStep = true → l.listenOnly = false →
    ((∀ q ∈ l.orders, q.frame.order ≠ f.order) →
      l.handOrder f = if l.orders.length < 12 then { l with orders := l.orders ++ [⟨f, 0⟩] } else l) ∧
    (∀ front q rest, l.orders = front ++ q :: rest → q.frame.order = f.order →
      (∀ x ∈ front ++ rest, x.frame.order ≠ f.order) →
      l.handOrder f = if front = [] ∧ l.wire.map Attempt.list = some .order then { l with orderNext := some f }
        else { l with orders := front ++ ⟨f, 0⟩ :: rest })) ∧
  (∀ (l : Line) (f : DemandFrame), l.refillDemand f =
    if l.wire.map Attempt.list = some .demand then { l with demandNext := some f }
    else { l with demand := some ⟨f, 0⟩ }) ∧
  (∀ (l : Line) (f : NoticeFrame), l.pushNotice f =
    if l.notices.length < 16 then { l with notices := l.notices ++ [⟨{ f with lapse := false }, 0⟩] }
    else { l with notices := (if l.wire.map Attempt.list = some .notice then l.notices.eraseIdx 1
      else l.notices.eraseIdx 0) ++ [⟨{ f with lapse := true }, 0⟩] })

/-! ### Heat and power -/

/-- R58, R61 to R65: GRANT_ROUND. -/
def Obligations.GrantRoundRebuildsList : Prop :=
  ∀ s : State, s.RangeLaw → ∃ t, Completes .grantRound s t ∧
    ({ t with grant := { t.grant with list := s.grant.list, pointers := s.grant.pointers } } : State) = s ∧
    ((s.time.feederTrip = true ∨ s.time.supplyLow = true) →
      t.grant.list = [] ∧ t.grant.pointers = s.grant.pointers) ∧
    (s.time.feederTrip = false → s.time.supplyLow = false →
      t.grant.list = (([7, 6, 5, 4, 3, 2, 1].filter fun l => decide (max 1 s.grant.mask ≤ l)).flatMap s.turns).take
        (min s.count (s.share.allowance / 8)) ∧
      t.grant.pointers.length = 7 ∧
      ∀ l, 1 ≤ l → l ≤ 7 → t.grant.pointers.getD (l - 1) 0 =
        ((t.grant.list.filter fun i => (s.locker? i).map Locker.level == some l).getLast?).getD
          (s.grant.pointers.getD (l - 1) 0))

/-- R57, R58, R59, R68, R73, R74, R79, R83, R86 to R93: the allowance that SHARE_TICK sets, and the grant list. -/
def Obligations.ShareTickSetsAllowance : Prop :=
  ∀ (s : State) (run : Nat) (st : ShareState) (D F C U T A : Nat) (heard : List Peer) (due : Peer → Nat)
    (floors needs weighted : Nat),
    run = (if s.share.sentMark then 0 else min 8 (s.share.unsentRun + 1)) →
    st = (if run = 8 then .isolated else s.share.state) →
    D = (if s.straps.commission then 0 else 8 * s.lockers.countP fun r => decide (max 1 s.grant.mask ≤ r.level)) →
    F = (if s.straps.commission then 0 else 8 * s.lockers.countP fun r => decide (max 6 s.grant.mask ≤ r.level)) →
    C = [240, 360, 480, 600, 720, 960, 1200, 1440].getD s.straps.capacity.toNat 0 →
    U = C - C / 16 →
    heard = (s.share.peers.filter fun p => decide (p.silence + 1 < 20)) →
    due = (fun p => if p.stale ∨ 4 ≤ p.silence + 1 then p.k else p.d) →
    floors = F + (heard.map Peer.f).sum →
    needs = (D - F) + (heard.map fun p => due p - p.f).sum →
    weighted = (s.straps.weight.toNat + 1) * (D - F) + (heard.map fun p => p.w * (due p - p.f)).sum →
    T = (if st ≠ .sharing then min D (U / 16)
      else if U ≤ floors then U * F / floors
      else if needs ≤ U - floors then D
      else F + min (D - F) ((U - floors) * (s.straps.weight.toNat + 1) * (D - F) / weighted)) →
    A = (if s.time.feederTrip ∨ s.time.supplyLow then 0
      else if T ≤ s.share.allowance then T else min T (s.share.allowance + C / 32)) →
    ∃ t, Completes .shareTick s t ∧ t.share.allowance = A ∧
      t.grant = { s.grant with list := if A < s.share.allowance then s.grant.list.take (A / 8) else s.grant.list }

/-- R59, R79, R80, R83, R85, R95, R110, R132, R138: SHARE_TICK at the Peer Table, the unsent run, the share state, the
wall indications, the DEMAND slot and the book. -/
def Obligations.ShareTickAgesJoinsAndAnnounces : Prop :=
  ∀ (s : State) (run : Nat), run = (if s.share.sentMark then 0 else min 8 (s.share.unsentRun + 1)) →
    ∃ t, Completes .shareTick s t ∧
      ({ t with share := s.share, grant := s.grant, line := s.line, book := s.book } : State) = s ∧
      t.share.cadence = s.share.cadence ∧ t.share.unsentRun = run ∧ t.share.sentMark = false ∧
      t.share.seq = (s.share.seq + 1) % 256 ∧
      t.share.peers = ((s.share.peers.filter fun p => decide (p.silence + 1 < 20)).map fun p =>
        { p with silence := p.silence + 1, stale := p.stale || decide (4 ≤ p.silence + 1) }) ∧
      (if s.share.state ≠ .isolated ∧ run = 8 then t.share.state = .isolated ∧ t.share.joinCount = 0 ∧ t.book = []
       else t.book = s.book ∧
        if s.share.state = .joining then t.share.joinCount = s.share.joinCount + 1 ∧
          t.share.state = if 8 ≤ s.share.joinCount + 1 then .sharing else .joining
        else t.share.state = s.share.state ∧ t.share.joinCount = s.share.joinCount) ∧
      (t.share.peerTrip = true ↔ ∃ p ∈ t.share.peers, p.stale = false ∧ p.trip = true) ∧
      (t.share.wallOver = true ↔ t.share.state = .sharing ∧
        s.usable < t.share.allowance + ((t.share.peers.filter fun p => !p.stale).map Peer.lastA).sum) ∧
      t.line = s.line.refillDemand
        ⟨(s.share.seq + 1) % 256,
         if s.straps.commission then 0 else 8 * s.lockers.countP fun r => decide (max 1 s.grant.mask ≤ r.level),
         if s.straps.commission then 0 else 8 * s.lockers.countP fun r => decide (max 6 s.grant.mask ≤ r.level),
         if s.straps.commission then 0 else 8 * s.count,
         s.straps.weight.toNat + 1, t.share.allowance, s.time.feederTrip || s.time.supplyLow,
         decide (t.share.state ≠ .sharing), s.straps.commission⟩

/-- R76 to R78: DEMAND. -/
def Obligations.DemandEntersPeerTable : Prop :=
  ∀ (src seq d f k w a : Nat) (trip isolated commission : Bool) (s : State), s.PeerLaw →
    ∃ t, Completes (.demand src seq d f k w a trip isolated commission) s t ∧
      ({ t with share := { t.share with peers := s.share.peers } } : State) = s ∧
      ((src = 31 ∨ src = s.own ∨ ∃ p ∈ s.share.peers, p.station = src ∧ p.lastSeq = seq) → t = s) ∧
      (src ≠ 31 → src ≠ s.own → (∀ p ∈ s.share.peers, p.station = src → p.lastSeq ≠ seq) →
        ∀ p, p ∈ t.share.peers ↔
          p = { station := src, lastSeq := seq, d := min 256 d, f := min (min 256 f) (min 256 d),
                k := max (min 256 k) (min 256 d), w := max 1 (min 4 w), lastA := min 1440 a, trip := trip,
                silence := 0, stale := false } ∨
          (p ∈ s.share.peers ∧ p.station ≠ src ∧
            ((∃ q ∈ s.share.peers, q.station = src) ∨ s.share.peers.length < 30 ∨
              ∃ q ∈ s.share.peers, p.silence < q.silence ∨ (p.silence = q.silence ∧ p.station < q.station))))

/-- R57, R69, R93, R165, R167, R190: SHED and the four power condition rows. -/
def Obligations.PowerConditionsAndShed : Prop :=
  (∀ (src mask : Nat) (s : State),
    Completes (.shed src mask) s { s with grant := { s.grant with mask := mask % 8 } }) ∧
  (∀ s : State, s.time.feederTrip = false → ∃ pins, Completes .feederTripAsserted s
    { s with time := { s.time with feederTrip := true, tripSettle := none }, share := { s.share with allowance := 0 },
             grant := { s.grant with list := [] }, pins := pins }) ∧
  (∀ s : State, s.time.feederTrip = true → ∃ pins, Completes .feederTripCleared s
    { s with time := { s.time with feederTrip := false, tripSettle := none }, pins := pins }) ∧
  (∀ s : State, s.time.supplyLow = false → ∃ pins, Completes .supplyLowAsserted s
    { s with time := { s.time with supplyLow := true, supplySettle := none }, share := { s.share with allowance := 0 },
             grant := { s.grant with list := [] }, pins := pins }) ∧
  (∀ s : State, s.time.supplyLow = true → ∃ t, Completes .supplyLowCleared s t ∧
    t.time = { s.time with supplyLow := false, supplySettle := none } ∧
    t.latch = (match s.latch.pulse, s.latch.queue with
      | none, i :: rest => ⟨rest, some ⟨i, 0⟩⟩
      | p, queue => ⟨queue, p⟩) ∧
    t.count = s.count ∧
    (∀ j r, s.locker? j = some r → t.locker? j =
      some (if s.latch.pulse = none ∧ s.latch.queue.head? = some j ∧ r.cycle = .queued then { r with cycle := .pulsing }
        else r)) ∧
    ({ t with time := s.time, latch := s.latch, lockers := s.lockers, pins := s.pins } : State) = s)

/-! ### Offers, bids and claims -/

/-- R101 to R105, R114, R115: OFFER. -/
def Obligations.OfferOpensEntryOrReasserts : Prop :=
  ∀ (src order cls collectBy digits : Nat) (s : State), s.OneHolder →
    ∃ t, Completes (.offer src order cls collectBy digits) s t ∧
      ({ t with book := s.book, line := s.line } : State) = s ∧
      ((order = 0 ∨ 999999 < order ∨ 7 < cls ∨ 1439 < collectBy ∨ 99 < digits) → t = s) ∧
      (1 ≤ order → order ≤ 999999 → cls ≤ 7 → collectBy ≤ 1439 → digits ≤ 99 →
        (∀ i r o, s.HeldAt order i r o →
          t = { s with line := s.line.handOrder ⟨order, .claim o.score i (decide r.state.Past)⟩ }) ∧
        (s.HeldNowhere order → (∃ e ∈ s.book, e.order = order) → t = s) ∧
        (s.HeldNowhere order → (∀ e ∈ s.book, e.order ≠ order) →
          (s.share.state = .isolated ∨ s.straps.commission = true ∨ s.time.clock = none ∨
            s.time.classes.getD cls none = none ∨ (∃ now, s.time.clock = some now ∧ DueAt now collectBy) ∨
            8 ≤ s.book.length ∨ (∀ i, ¬ s.Fit i)) → t = s) ∧
        (s.HeldNowhere order → (∀ e ∈ s.book, e.order ≠ order) → s.share.state ≠ .isolated →
          s.straps.commission = false → ∀ now c i, s.time.clock = some now → ¬ DueAt now collectBy →
          s.time.classes.getD cls none = some c → s.book.length < 8 → s.Chosen i →
          ∃ score,
            score = 100 * (s.indices.filter fun j => (s.locker? j).map Locker.state == some .vacant &&
                s.book.all fun e => e.candidate != j).length +
              10 * min 9 ((s.share.allowance - s.demandHU) / 8) + 5 * (if c.floor ≤ s.tempAt i then 1 else 0) ∧
            t.book.Perm (⟨order, cls, collectBy, digits, score, i, none, 0⟩ :: s.book) ∧
            t.line = s.line.handOrder ⟨order, .bid score i⟩))

/-- R100, R106, R107, R114, R116 to R118: BID, CLAIM and RESIGN. -/
def Obligations.RivalFramesAreMet : Prop :=
  (∀ (src order score locker : Nat) (s : State), Completes (.bid src order score locker) s
    { s with book := s.book.map fun e => if e.order = order ∧ (match e.rival with
        | none => true
        | some q => decide (q.score < score ∨ (q.score = score ∧ src < q.station))) = true
      then { e with rival := some ⟨score, src⟩ } else e }) ∧
  (∀ (src order score locker : Nat) (s : State), Completes (.resign src order locker) s s ∧
    ((∃ e ∈ s.book, e.order = order) → ∀ t, Completes (.bid src order score locker) s t →
      Completes (.claim src order score locker false) s t) ∧
    ((∃ e ∈ s.book, e.order = order) →
      Completes (.claim src order score locker true) s { s with book := s.book.filter fun e => e.order != order })) ∧
  (∀ (src order score locker : Nat) (loaded : Bool) (s : State), s.OneHolder → (∀ e ∈ s.book, e.order ≠ order) →
    ∃ t, Completes (.claim src order score locker loaded) s t ∧
      (s.HeldNowhere order → t = s) ∧
      (∀ i r o, s.HeldAt order i r o →
        (r.state = .reserved → (loaded = true ∨ o.score < score ∨ (o.score = score ∧ src < s.own)) →
          t.locker? i = some { r with
            state := .vacant, order := none, voidPending := false, retireReason := none, faultReason := none,
            attempts := 0, ready := false, cold := 0, holdAge := 0, phase := .raise, level := 0 } ∧
          t.line = s.line.handOrder ⟨order, .resign i⟩ ∧ t.latch = s.latch ∧
          t.grant = { s.grant with list := s.grant.list.filter (· != i) } ∧ s.OthersKept t i ∧ s.LockerSideOnly t) ∧
        (r.state = .reserved → loaded = false → (score < o.score ∨ (score = o.score ∧ s.own ≤ src)) →
          t = { s with line := s.line.handOrder ⟨order, .claim o.score i false⟩ }) ∧
        (r.state.Past → loaded = false →
          t = { s with line := s.line.handOrder ⟨order, .claim o.score i true⟩ }) ∧
        (r.state.Past → loaded = true → t = s)))

/-- R5, R111, R112: WINDOW_END. -/
def Obligations.WindowEndJudgesEntry : Prop :=
  ∀ (s : State) (e : BookEntry), s.BookLaw → e ∈ s.book →
    ∃ t u, Completes (.windowEnd e.order) s t ∧ u = { s with book := s.book.filter fun x => x.order != e.order } ∧
      (((∃ q, e.rival = some q ∧ ¬ (q.score < e.score ∨ (q.score = e.score ∧ s.own < q.station))) ∨
        (∀ now, s.time.clock = some now → DueAt now e.collectBy) ∨ (∀ i, ¬ u.Fit i)) → t = u) ∧
      (∀ now i r, s.time.clock = some now → ¬ DueAt now e.collectBy →
        (∀ q, e.rival = some q → q.score < e.score ∨ (q.score = e.score ∧ s.own < q.station)) →
        (u.Fit e.candidate → i = e.candidate) → (¬ u.Fit e.candidate → u.Chosen i) → s.locker? i = some r →
        ∃ q, t.locker? i = some q ∧
          q = ({ r with
            state := .reserved, order := some ⟨e.order, e.cls, e.collectBy, e.digits, e.score⟩, phase := .raise,
            voidPending := false, cycle := .none } : Locker).recomputed s.time.classes s.time.clock s.straps.commission ∧
          t.line = s.line.handOrder ⟨e.order, .claim e.score i false⟩ ∧ t.latch = s.latch ∧ t.book = u.book ∧
          t.grant = { s.grant with list := if q.level = 0 then s.grant.list.filter (· != i) else s.grant.list } ∧
          s.OthersKept t i ∧ s.LockerSideOnly { t with book := s.book })

/-! ### The line -/

/-- R121, R134, R135: ATTEMPT_START, with the access count at the threshold of the frame next in line. R120, R136: the line
bits that the transmitter drives: the group of the next symbol, that of BREAK after a collision, and none without an
attempt. -/
def Obligations.AttemptPutsNextFrameOnWire : Prop :=
  (∀ (s : State) (k : ListKind) (gap : Nat) (out : OutFrame),
    ((∃ q rest, s.line.replies = q :: rest ∧ k = .reply ∧ gap = 8 ∧ out = q.frame.out) ∨
     (s.line.replies = [] ∧ ∃ q rest, s.line.orders = q :: rest ∧ k = .order ∧ gap = 8 ∧ out = q.frame.out) ∨
     (s.line.replies = [] ∧ s.line.orders = [] ∧ ∃ q, s.line.demand = some q ∧ k = .demand ∧ gap = 16 ∧
       out = q.frame.out) ∨
     (s.line.replies = [] ∧ s.line.orders = [] ∧ s.line.demand = none ∧ ∃ q rest, s.line.notices = q :: rest ∧
       k = .notice ∧ gap = 24 ∧ out = q.frame.out)) →
    s.line.inStep = true → s.line.listenOnly = false → s.line.wire = none → s.line.active = false →
    gap + 2 * s.straps.station.toNat + s.line.extraWait ≤ s.line.accessCount →
    Completes .attemptStart s { s with line := { s.line with
      wire := some ⟨k, frameSymbols (out.kind :: s.straps.station.toNat :: out.dest :: out.body), false, true⟩ } }) ∧
  (∀ s : State, (s.line.wire = none → s.lineOut = none) ∧
    ∀ a, s.line.wire = some a → (a.breaking = true → s.lineOut = some 0b11111#5) ∧
      ∀ sym rest, a.breaking = false → a.symbols = sym :: rest → ∀ g, (sym, g) ∈ [(Sym.quiet, 0b00000#5),
        (.open1, 0b01001#5), (.open2, 0b01010#5), (.shut1, 0b00101#5), (.shut2, 0b10100#5), (.brk, 0b11111#5),
        (.data 0, 0b10011#5), (.data 1, 0b10101#5), (.data 2, 0b10110#5), (.data 3, 0b11001#5), (.data 4, 0b11010#5),
        (.data 5, 0b01011#5), (.data 6, 0b01101#5), (.data 7, 0b01110#5), (.data 8, 0b11100#5), (.data 9, 0b00111#5),
        (.data 10, 0b10111#5), (.data 11, 0b11011#5), (.data 12, 0b11101#5), (.data 13, 0b01111#5),
        (.data 14, 0b11110#5), (.data 15, 0b10010#5)] → s.lineOut = some g)

/-- R83, R84, R135, R138, R139, R158: TRANSMISSION_COMPLETE, by the list that the attempt serves. R141: with nothing on the
wire there is no report. R84: but after a fall out of step that met a DEMAND read back whole, the row sets the sent mark
alone; that such a DEMAND is complete and is still to be reported is the model's choice (log 32). -/
def Obligations.CompletionRemovesSentFrame : Prop :=
  (∀ s : State, s.line.wire = none → s.line.demandSent = true → s.line.inStep = false →
    Completes .transmissionComplete s
      { s with line := { s.line with demandSent := false }, share := { s.share with sentMark := true } }) ∧
  (∀ s : State, s.line.wire = none → s.line.demandSent = false → Completes .transmissionComplete s s) ∧
  (∀ (s : State) (a : Attempt), s.line.wire = some a →
    ∃ t, Completes .transmissionComplete s t ∧
      t.line.wire = none ∧ t.line.extraWait = 0 ∧ t.line.active = false ∧ t.line.accessCount = 0 ∧
      t.line.backoff = s.line.backoff ∧
      (a.list = .order →
        t.line.orders = (match s.line.orderNext with
          | some f => ⟨f, 0⟩ :: s.line.orders.drop 1
          | none => s.line.orders.drop 1) ∧ t.line.orderNext = none ∧ t.line.replies = s.line.replies ∧
        t.line.demand = s.line.demand ∧ t.line.notices = s.line.notices ∧ ({ t with line := s.line } : State) = s) ∧
      (a.list = .notice →
        t.line.notices = s.line.notices.drop 1 ∧ t.line.replies = s.line.replies ∧ t.line.orders = s.line.orders ∧
        t.line.demand = s.line.demand ∧ ({ t with line := s.line } : State) = s) ∧
      (a.list = .demand →
        t.line.demand = s.line.demandNext.map (fun f => (⟨f, 0⟩ : Queued DemandFrame)) ∧ t.line.demandNext = none ∧
        t.line.replies = s.line.replies ∧ t.line.orders = s.line.orders ∧ t.line.notices = s.line.notices ∧
        t.share = (if s.share.state = .isolated ∧ s.line.inStep = true ∧ s.line.listenOnly = false then
            { s.share with sentMark := true, state := .joining, joinCount := 0, unsentRun := 0 }
          else { s.share with sentMark := true }) ∧
        ({ t with line := s.line, share := s.share } : State) = s) ∧
      (a.list = .reply → ∀ q rest, s.line.replies = q :: rest →
        (¬ (s.cip.proc = .restarting ∧ q.frame.Final) →
          t.line.replies = rest ∧ t.line.orders = s.line.orders ∧ t.line.demand = s.line.demand ∧
          t.line.notices = s.line.notices ∧ ({ t with line := s.line } : State) = s) ∧
        (s.cip.proc = .restarting → q.frame.Final → ∃ u, u.line.replies = rest ∧
          ({ u with line := s.line } : State) = s ∧ Completes .warmRestart u t)))

/-- R127, R136 to R139, R158: COLLISION, its BREAK sent, by the list that the attempt serves. The BREAK settles the line
monitor unless it met a SETTLED one or was not read as a BREAK; LINE_ACTIVE and LINE_SETTLED then follow the symbol. -/
def Obligations.CollisionDrawsBackoffAndRetries : Prop :=
  ∀ (s : State) (a : Attempt), s.line.wire = some a →
    ∃ t, Completes .collision s t ∧ t.line.wire = none ∧
      (a.settles = true → t.line.active = false ∧ t.line.accessCount = 0) ∧
      (a.settles = false → t.line.active = s.line.active ∧ t.line.accessCount = s.line.accessCount ∧
        t.line.quietRun = s.line.quietRun) ∧
      t.line.activityCount = s.line.activityCount ∧
      t.line.backoff.getLsbD 0 = !(s.line.backoff.getLsbD 7 ^^ s.line.backoff.getLsbD 5 ^^ s.line.backoff.getLsbD 4 ^^
        s.line.backoff.getLsbD 3) ∧
      (∀ k, k < 7 → t.line.backoff.getLsbD (k + 1) = s.line.backoff.getLsbD k) ∧
      (a.list ≠ .reply → t.line.extraWait = 2 * (t.line.backoff.toNat % 16) ∧ t.line.replies = s.line.replies ∧
        ({ t with line := s.line } : State) = s) ∧
      (a.list = .order →
        (∀ f, s.line.orderNext = some f → t.line.orders = ⟨f, 0⟩ :: s.line.orders.drop 1) ∧
        (∀ q rest, s.line.orderNext = none → s.line.orders = q :: rest →
          t.line.orders = if q.attempts + 1 < 8 then { q with attempts := q.attempts + 1 } :: rest else rest) ∧
        t.line.orderNext = none ∧ t.line.demand = s.line.demand ∧ t.line.notices = s.line.notices) ∧
      (a.list = .demand →
        (∀ f, s.line.demandNext = some f → t.line.demand = some ⟨f, 0⟩) ∧
        (∀ q, s.line.demandNext = none → s.line.demand = some q →
          t.line.demand = if q.attempts + 1 < 8 then some { q with attempts := q.attempts + 1 } else none) ∧
        t.line.demandNext = none ∧ t.line.orders = s.line.orders ∧ t.line.notices = s.line.notices) ∧
      (a.list = .notice →
        (∀ q rest, s.line.notices = q :: rest →
          t.line.notices = if q.attempts + 1 < 8 then { q with attempts := q.attempts + 1 } :: rest else rest) ∧
        t.line.orders = s.line.orders ∧ t.line.demand = s.line.demand) ∧
      (a.list = .reply → ∀ q rest, s.line.replies = q :: rest →
        (¬ (8 ≤ q.attempts + 1 ∧ s.cip.proc = .restarting ∧ q.frame.Final) →
          t.line.replies = (if q.attempts + 1 < 8 then { q with attempts := q.attempts + 1 } :: rest else rest) ∧
          t.line.extraWait = 2 * (t.line.backoff.toNat % 16) ∧ t.line.orders = s.line.orders ∧
          t.line.demand = s.line.demand ∧ t.line.notices = s.line.notices ∧ ({ t with line := s.line } : State) = s) ∧
        (8 ≤ q.attempts + 1 → s.cip.proc = .restarting → q.frame.Final → ∃ u, u.line.replies = rest ∧
          ({ u with line := s.line } : State) = s ∧ Completes .warmRestart u t))

/-- R123, R127, R128, R129, R140: LINE_ACTIVE, LINE_SETTLED, IN_STEP, LINE_FAULT_CLEARED, FRAME_DISCARDED, and the NOTICE
and REPLY frames of other stations. That LINE_SETTLED keeps the activity count is the model's reading (log 27). -/
def Obligations.MonitorAndStepLockFollowLine : Prop :=
  (∀ s : State, s.line.active = false → ∃ t, Completes .lineActive s t ∧
    ({ t.line with active := false, accessCount := s.line.accessCount, activityCount := s.line.activityCount,
                   quietRun := s.line.quietRun, inStepCount := s.line.inStepCount } : Line) = s.line ∧
    t.line.active = true ∧ t.line.accessCount = 0 ∧ t.line.activityCount = 1 ∧
    (s.line.inStep = false → t.line.inStepCount = 0) ∧ ({ t with line := s.line } : State) = s) ∧
  (∀ s : State, s.line.active = true → ∃ t, Completes .lineSettled s t ∧
    ({ t.line with active := true, accessCount := s.line.accessCount, quietRun := s.line.quietRun } : Line) = s.line ∧
    t.line.active = false ∧ t.line.accessCount = 0 ∧ ({ t with line := s.line } : State) = s) ∧
  (∀ s : State, s.line.inStep = false → s.line.lineFault = false → 32 ≤ s.line.inStepCount →
    Completes .inStep s { s with line := { s.line with inStep := true, inStepCount := 0, rx := .hunting } }) ∧
  (∀ s : State, Completes .lineFaultCleared s { s with line := { s.line with lineFault := false } }) ∧
  (∀ s : State, ∃ t, Completes .frameDiscarded s t ∧
    (∀ nibbles shut echo, s.line.rx = .frame nibbles shut echo → t = { s with line := { s.line with rx := .hunting } }) ∧
    (s.line.rx = .hunting → t = s)) ∧
  (∀ (src locker event reason order : Nat) (lapse : Bool) (s : State),
    Completes (.notice src locker event reason order lapse) s s) ∧
  (∀ (src verb outcome reason locker state : Nat) (data : List Nat) (s : State),
    Completes (.reply src verb outcome reason locker state data) s s)

/-- R82, R110, R127, R129, R139, R158: LOSS_OF_STEP and JABBER. R142, R143, R160: ADDRESS_CLASH, with no attempt on the
wire. A RESTARTING processor whose reply is thrown out makes the warm restart on the state that this leaves. R84, R141: at
a fall out of step an attempt under way is cut off, with no report. What is the model's choice (log 32, in `State.Fallen`):
one read back whole counts as complete, so that its frame has left its list and the extra wait is 0, and a DEMAND among them
is still to be reported, by `demandSent`, the model's own field. -/
def Obligations.LossAndClashSilenceStation : Prop :=
  (∀ s : State,
    (s.line.inStep = true → ∃ t, Completes .lossOfStep s t ∧ t.line.lineFault = true ∧
      (¬ (s.cip.proc = .restarting ∧ ∃ q ∈ s.line.replies, q.frame.Final) → s.Fallen t) ∧
      (s.cip.proc = .restarting → (∃ q ∈ s.line.replies, q.frame.Final) →
        ∃ u, s.Fallen u ∧ Completes .warmRestart u t)) ∧
    (s.line.inStep = false →
      Completes .lossOfStep s { s with line := { s.line with lineFault := true, inStepCount := 0 } }) ∧
    (s.line.active = true → (s.line.activityCount = 399 ∨ s.line.activityCount = 400) →
      ∃ t, Completes .jabber s t ∧ t.line.active = true ∧ t.line.activityCount = 400 ∧
      (s.line.inStep = false → t = { s with line := { s.line with activityCount := 400 } }) ∧
      (s.line.inStep = true → ¬ (s.cip.proc = .restarting ∧ ∃ q ∈ s.line.replies, q.frame.Final) → s.Fallen t) ∧
      (s.line.inStep = true → s.cip.proc = .restarting → (∃ q ∈ s.line.replies, q.frame.Final) →
        ∃ u, s.Fallen u ∧ Completes .warmRestart u t))) ∧
  (∀ s : State,
    (s.line.listenOnly = true → Completes .addressClash s s) ∧
    (s.line.listenOnly = false → s.line.wire = none → ∃ t u, Completes .addressClash s t ∧
      (u.line.listenOnly = true ∧ u.line.replies = [] ∧ u.line.orders = [] ∧ u.line.notices = s.line.notices ∧
        u.line.inStep = s.line.inStep ∧ u.line.rx = s.line.rx ∧ u.line.wire = none ∧ u.cip = ⟨[], s.cip.proc⟩ ∧
        (s.line.demandNext = none → u.line.demand = s.line.demand) ∧
        u.share = (if s.share.state = .isolated then s.share else { s.share with state := .isolated, joinCount := 0 }) ∧
        (s.share.state ≠ .isolated → u.book = []) ∧
        ({ u with line := s.line, cip := s.cip, share := s.share, book := s.book } : State) = s) ∧
      (¬ (s.cip.proc = .restarting ∧ ∃ q ∈ s.line.replies, q.frame.Final) → t = u) ∧
      (s.cip.proc = .restarting → (∃ q ∈ s.line.replies, q.frame.Final) → Completes .warmRestart u t)))

/-! ### Commands and replies -/

/-- R146 to R148: the arrival of a COMMAND. R140, R143: a listen-only station takes none. -/
def Obligations.CommandArrivalJoinsOrAnswers : Prop :=
  (∀ (src dest verb : Nat) (ops : List Nat) (s : State), s.line.listenOnly = true →
    Completes (.command src dest verb ops) s s) ∧
  (∀ (src dest verb : Nat) (ops : List Nat) (s : State) (c : CommandFrame) (kept : List CommandFrame)
    (answers : List ReplyFrame) (L S room : Nat), c = ⟨src, dest, verb, ops⟩ → s.OneHolder → s.line.listenOnly = false →
    kept = (s.cip.inbox.filter fun h => !(verb == 2 && h.verb == 1 && h.order == c.order)) →
    ((s.HeldNowhere c.order ∧ L = 0 ∧ S = 0) ∨ ∃ r o, s.HeldAt c.order L r o ∧ S = r.state.code) →
    room = (match s.cip.proc with
      | .writing w => if w.dest = 31 then 4 else 3
      | _ => 4) →
    answers = ((s.cip.inbox.filter fun h => (verb == 2 && h.verb == 1 && h.order == c.order) && h.dest != 31).map fun h =>
        (⟨h.src, 1, .refuse, .superseded, L, S, [0, 0, 0, 0, 0, 0, 0]⟩ : ReplyFrame)) ++
      (if kept.length < 4 ∨ dest = 31 then [] else [⟨src, verb, .busy, .none, 0, 0, [0, 0, 0, 0, 0, 0, 0]⟩]) →
    ∃ t, Completes (.command src dest verb ops) s t ∧
      t.cip = { s.cip with inbox := if kept.length < 4 then kept ++ [c] else kept } ∧
      t.line = { s.line with replies := s.line.replies ++ (if s.line.inStep then
        (answers.take (room - s.line.replies.length)).map fun f => (⟨f, 0⟩ : Queued ReplyFrame) else []) } ∧
      ({ t with cip := s.cip, line := s.line } : State) = s)

/-- R3, R10, R151: LOAD, outside COMMISSION. -/
def Obligations.LoadOpensReservedLocker : Prop :=
  ∀ (s : State) (c : CommandFrame) (rest : List CommandFrame), s.OneHolder → s.LatchLaw → s.Takes c rest → c.verb = 1 →
    s.straps.commission = false →
    ∃ t, Completes .load s t ∧ s.TakenFrom t rest ∧ ({ t.line with replies := s.line.replies } : Line) = s.line ∧
      (s.HeldNowhere c.order →
        s.Answered t c ⟨c.src, 1, .refuse, .unknownOrder, 0, 0, [0, 0, 0, 0, 0, 0, 0]⟩ ∧
        ({ t with cip := s.cip, line := s.line } : State) = s) ∧
      (∀ i r o, s.HeldAt c.order i r o →
        (r.state = .reserved → r.doorOpen = false →
          s.Answered t c ⟨c.src, 1, .accept, .none, i, 2, [0, 0, 0, 0, 0, 0, 0]⟩ ∧
          t.latch = s.latch.requested i s.time.supplyLow ∧
          t.locker? i = some { r with
            state := .loading, attempts := 0, level := 0,
            cycle := if s.latch.pulse = none ∧ s.time.supplyLow = false then .pulsing else .queued } ∧
          t.grant = { s.grant with list := s.grant.list.filter (· != i) } ∧ s.OthersKept t i ∧
          s.LockerSideOnly { t with cip := s.cip }) ∧
        (r.state = .loading →
          s.Answered t c ⟨c.src, 1, .accept, .none, i, 2, [0, 0, 0, 0, 0, 0, 0]⟩ ∧
          ({ t with cip := s.cip, line := s.line } : State) = s) ∧
        (r.state ≠ .reserved → r.state ≠ .loading →
          s.Answered t c ⟨c.src, 1, .refuse, .wrongState, i, r.state.code, [0, 0, 0, 0, 0, 0, 0]⟩ ∧
          ({ t with cip := s.cip, line := s.line } : State) = s))

/-- R3, R6, R7, R109, R152: VOID, outside COMMISSION. -/
def Obligations.VoidCancelsOrder : Prop :=
  ∀ (s : State) (c : CommandFrame) (rest : List CommandFrame), s.OneHolder → s.Takes c rest → c.verb = 2 →
    s.straps.commission = false →
    ∃ t, Completes .void s t ∧ s.TakenFrom t rest ∧ t.latch = s.latch ∧
      (s.HeldNowhere c.order → (∃ e ∈ s.book, e.order = c.order) →
        s.Answered t c ⟨c.src, 2, .accept, .none, 0, 0, [0, 0, 0, 0, 0, 0, 0]⟩ ∧
        t.book = (s.book.filter fun e => e.order != c.order) ∧ t.line.notices = s.line.notices ∧
        t.line.orders = s.line.orders ∧ ({ t with cip := s.cip, line := s.line, book := s.book } : State) = s) ∧
      (s.HeldNowhere c.order → (∀ e ∈ s.book, e.order ≠ c.order) →
        s.Answered t c ⟨c.src, 2, .refuse, .unknownOrder, 0, 0, [0, 0, 0, 0, 0, 0, 0]⟩ ∧
        t.line.notices = s.line.notices ∧ ({ t with cip := s.cip, line := s.line } : State) = s) ∧
      (∀ i r o, s.HeldAt c.order i r o → s.OthersKept t i ∧ s.LockerSideOnly { t with cip := s.cip } ∧
        t.line.orders = s.line.orders ∧ t.line.demand = s.line.demand ∧
        (r.state = .reserved →
          s.Answered t c ⟨c.src, 2, .accept, .none, i, 0, [0, 0, 0, 0, 0, 0, 0]⟩ ∧
          t.line.notices = (s.line.pushNotice ⟨i, .cancelled, .none, o.order, false⟩).notices ∧
          t.locker? i = some { r with
            state := .vacant, order := none, voidPending := false, retireReason := none, faultReason := none,
            attempts := 0, ready := false, cold := 0, holdAge := 0, phase := .raise, level := 0 } ∧
          t.grant = { s.grant with list := s.grant.list.filter (· != i) }) ∧
        (r.state = .loading →
          s.Answered t c ⟨c.src, 2, .accept, .none, i, 2, [0, 0, 0, 0, 0, 0, 0]⟩ ∧ t.line.notices = s.line.notices ∧
          t.locker? i = some { r with voidPending := true } ∧ t.grant = s.grant) ∧
        (r.state = .holding →
          s.Answered t c ⟨c.src, 2, .accept, .none, i, 5, [0, 0, 0, 0, 0, 0, 0]⟩ ∧
          t.line.notices = (s.line.pushNotice ⟨i, .retired, .retire .voided, o.order, false⟩).notices ∧
          t.locker? i = some { r with
            state := .retired, retireReason := some .voided, faultReason := none, voidPending := false, level := 0 } ∧
          t.grant = { s.grant with list := s.grant.list.filter (· != i) }) ∧
        ((r.state = .retired ∨ r.state = .fault) →
          s.Answered t c ⟨c.src, 2, .accept, .none, i, r.state.code, [0, 0, 0, 0, 0, 0, 0]⟩ ∧
          t.line.notices = s.line.notices ∧ t.locker? i = some r ∧ t.grant = s.grant) ∧
        (r.state = .releasing →
          s.Answered t c ⟨c.src, 2, .refuse, .wrongState, i, 4, [0, 0, 0, 0, 0, 0, 0]⟩ ∧
          t.line.notices = s.line.notices ∧ t.locker? i = some r ∧ t.grant = s.grant))

/-- R150: in COMMISSION the verbs LOAD, VOID, CLEAR, BLOCK and UNBLOCK are refused NOT-IN-SERVICE. R153, R154: outside it
CLEAR, BLOCK and UNBLOCK of an operand that is 0 or above N are refused NO-SUCH-LOCKER, and of a record that is not swept
WRONG-STATE. R155: QUERY above N is refused NO-SUCH-LOCKER in COMMISSION and outside it. -/
def Obligations.VerbsAreScreened : Prop :=
  ∀ (s : State) (c : CommandFrame) (rest : List CommandFrame) (row : Instr), s.Takes c rest →
    ∃ t, Completes row s t ∧
      (s.straps.commission = true →
        ((row = .load ∧ c.verb = 1) ∨ (row = .void ∧ c.verb = 2) ∨ (row = .clear ∧ c.verb = 3) ∨
          (row = .block ∧ c.verb = 4) ∨ (row = .unblock ∧ c.verb = 5)) →
        s.RefusedOnly t c rest .notInService 0 0) ∧
      (s.straps.commission = false → s.locker? (c.ops.getD 0 0) = none →
        ((row = .clear ∧ c.verb = 3) ∨ (row = .block ∧ c.verb = 4) ∨ (row = .unblock ∧ c.verb = 5)) →
        s.RefusedOnly t c rest .noSuchLocker 0 0) ∧
      (row = .query → c.verb = 6 → c.ops.getD 0 0 ≠ 0 → s.locker? (c.ops.getD 0 0) = none →
        s.RefusedOnly t c rest .noSuchLocker 0 0) ∧
      (∀ r, s.straps.commission = false → s.locker? (c.ops.getD 0 0) = some r → r.swept = false →
        ((row = .clear ∧ c.verb = 3) ∨ (row = .block ∧ c.verb = 4) ∨ (row = .unblock ∧ c.verb = 5)) →
        s.RefusedOnly t c rest .wrongState (c.ops.getD 0 0) r.state.code)

/-- R6, R9, R10, R15, R153, R154: CLEAR, BLOCK and UNBLOCK of a swept record, outside COMMISSION. R6 sets attempts to 0 on
entering VACANT, and R15 keeps it at an UNBLOCK with a door cycle under way: that R15 is followed there is the model's choice
(log 31). -/
def Obligations.LockerVerbsMoveRecord : Prop :=
  ∀ (s : State) (c : CommandFrame) (rest : List CommandFrame) (i : Nat) (r : Locker), s.LatchLaw → s.Takes c rest →
    s.straps.commission = false → c.ops.getD 0 0 = i → s.locker? i = some r → r.swept = true →
    (c.verb = 3 → ∃ t, Completes .clear s t ∧ s.TakenFrom t rest ∧
      ({ t.line with replies := s.line.replies } : Line) = s.line ∧ s.OthersKept t i ∧
      s.LockerSideOnly { t with cip := s.cip } ∧ t.grant = s.grant ∧
      ((r.state = .retired ∨ r.state = .fault ∨ r.state = .blocked) →
        s.Answered t c ⟨c.src, 3, .accept, .none, i, r.state.code, [0, 0, 0, 0, 0, 0, 0]⟩ ∧
        (r.cycle ≠ .none → t.locker? i = some r ∧ t.latch = s.latch) ∧
        (r.cycle = .none → r.doorOpen = true →
          t.locker? i = some { r with attempts := 0, cycle := .opened } ∧ t.latch = s.latch) ∧
        (r.cycle = .none → r.doorOpen = false →
          t.locker? i = some { r with
            attempts := 0, cycle := if s.latch.pulse = none ∧ s.time.supplyLow = false then .pulsing else .queued } ∧
          t.latch = s.latch.requested i s.time.supplyLow)) ∧
      (¬ (r.state = .retired ∨ r.state = .fault ∨ r.state = .blocked) →
        s.Answered t c ⟨c.src, 3, .refuse, .wrongState, i, r.state.code, [0, 0, 0, 0, 0, 0, 0]⟩ ∧
        t.locker? i = some r ∧ t.latch = s.latch)) ∧
    (c.verb = 4 → ∃ t, Completes .block s t ∧ s.TakenFrom t rest ∧
      ({ t.line with replies := s.line.replies } : Line) = s.line ∧ s.OthersKept t i ∧
      s.LockerSideOnly { t with cip := s.cip } ∧ t.latch = s.latch ∧
      (r.state = .vacant →
        s.Answered t c ⟨c.src, 4, .accept, .none, i, 6, [0, 0, 0, 0, 0, 0, 0]⟩ ∧
        t.locker? i = some { r with state := .blocked, level := 0 } ∧
        t.grant = { s.grant with list := s.grant.list.filter (· != i) }) ∧
      (r.state ≠ .vacant →
        s.Answered t c ⟨c.src, 4, .refuse, .wrongState, i, r.state.code, [0, 0, 0, 0, 0, 0, 0]⟩ ∧
        t.locker? i = some r ∧ t.grant = s.grant)) ∧
    (c.verb = 5 → ∃ t, Completes .unblock s t ∧ s.TakenFrom t rest ∧
      ({ t.line with replies := s.line.replies } : Line) = s.line ∧ s.OthersKept t i ∧
      s.LockerSideOnly { t with cip := s.cip } ∧ t.latch = s.latch ∧
      (r.state = .blocked →
        s.Answered t c ⟨c.src, 5, .accept, .none, i, 0, [0, 0, 0, 0, 0, 0, 0]⟩ ∧
        t.locker? i = some { r with
          state := .vacant, order := none, voidPending := false, retireReason := none, faultReason := none,
          attempts := if r.cycle = .none then 0 else r.attempts, ready := false, cold := 0, holdAge := 0,
          phase := .raise, level := 0 } ∧
        t.grant = { s.grant with list := s.grant.list.filter (· != i) }) ∧
      (r.state ≠ .blocked →
        s.Answered t c ⟨c.src, 5, .refuse, .wrongState, i, r.state.code, [0, 0, 0, 0, 0, 0, 0]⟩ ∧
        t.locker? i = some r ∧ t.grant = s.grant))

/-- R59, R125, R150, R155 to R157: QUERY, QUERY_BANK, LAMPTEST and UNKNOWN_VERB, and what each leaves unchanged. -/
def Obligations.QueriesAndLampTestAnswer : Prop :=
  ∀ (s : State) (c : CommandFrame) (rest : List CommandFrame), s.Takes c rest →
    (∀ i r, c.verb = 6 → c.ops.getD 0 0 = i → s.locker? i = some r →
      ∃ t, Completes .query s t ∧ s.TakenFrom t rest ∧ ({ t with cip := s.cip, line := s.line } : State) = s ∧
        ({ t.line with replies := s.line.replies } : Line) = s.line ∧
        ∀ n, (r.order = none ∧ n = 0 ∨ ∃ o, r.order = some o ∧ n = o.order) →
          s.Answered t c ⟨c.src, 6, .accept, .none, i, r.state.code,
            [n / 65536 % 256, n / 256 % 256, n % 256, r.temp, r.level + (if i ∈ s.grant.list then 128 else 0),
             min 255 (r.cold / 8), min 255 (r.holdAge / 60)]⟩) ∧
    (c.verb = 6 → c.ops.getD 0 0 = 0 →
      ∃ t, Completes .queryBank s t ∧ s.TakenFrom t rest ∧ ({ t with cip := s.cip, line := s.line } : State) = s ∧
        ({ t.line with replies := s.line.replies } : Line) = s.line ∧
        s.Answered t c ⟨c.src, 6, .accept, .none, 0, 0,
          [s.share.allowance / 256 % 256, s.share.allowance % 256, s.demandHU / 256 % 256, s.demandHU % 256,
           s.share.peers.length,
           (match s.share.state with
             | .isolated => 0
             | .joining => 1
             | .sharing => 2) + (if s.time.feederTrip ∨ s.time.supplyLow then 4 else 0) +
             (if s.straps.commission then 8 else 0) + (if s.share.peerTrip then 32 else 0) +
             (if s.share.wallOver then 64 else 0),
           s.grant.mask]⟩) ∧
    (c.verb = 7 →
      ∃ t, Completes .lampTest s t ∧ s.TakenFrom t rest ∧
        ({ t with cip := s.cip, line := s.line, lamp := s.lamp } : State) = s ∧
        ({ t.line with replies := s.line.replies } : Line) = s.line ∧
        (1 ≤ c.ops.getD 0 0 → c.ops.getD 0 0 ≤ 30 →
          s.Answered t c ⟨c.src, 7, .accept, .none, 0, 0, [0, 0, 0, 0, 0, 0, 0]⟩ ∧
          t.lamp = { s.lamp with test := some (Config.sec (c.ops.getD 0 0)) }) ∧
        (c.ops.getD 0 0 = 0 ∨ 30 < c.ops.getD 0 0 →
          s.Answered t c ⟨c.src, 7, .refuse, .badValue, 0, 0, [0, 0, 0, 0, 0, 0, 0]⟩ ∧ t.lamp = s.lamp)) ∧
    (c.verb = 0 ∨ 9 < c.verb →
      ∃ t, Completes .unknownVerb s t ∧ s.TakenFrom t rest ∧ ({ t with cip := s.cip, line := s.line } : State) = s ∧
        ({ t.line with replies := s.line.replies } : Line) = s.line ∧
        s.Answered t c ⟨c.src, c.verb, .refuse, .badValue, 0, 0, [0, 0, 0, 0, 0, 0, 0]⟩)

/-- R158: RESTART. R159, R189: CLASS and CLASS_WRITE_END. -/
def Obligations.RestartAndClassHoldProcessor : Prop :=
  (∀ (s : State) (c : CommandFrame) (rest : List CommandFrame), s.Takes c rest → c.verb = 8 →
    ∃ t, Completes .restart s t ∧
      (c.dest ≠ 31 → s.line.inStep = true → s.line.listenOnly = false →
        s.Answered t c ⟨c.src, 8, .accept, .none, 0, 0, [0, 0, 0, 0, 0, 0, 0]⟩ ∧ t.cip = ⟨rest, .restarting⟩ ∧
        ({ t.line with replies := s.line.replies } : Line) = s.line ∧
        ({ t with cip := s.cip, line := s.line } : State) = s) ∧
      (c.dest = 31 ∨ s.line.inStep = false ∨ s.line.listenOnly = true →
        Completes .warmRestart { s with cip := ⟨rest, .restarting⟩ } t)) ∧
  (∀ (s : State) (c : CommandFrame) (rest : List CommandFrame) (e : ClassEntry), s.Takes c rest → c.verb = 9 →
    e = ⟨c.ops.getD 1 0, c.ops.getD 2 0, c.ops.getD 3 0, c.ops.getD 4 0 * 256 + c.ops.getD 5 0, c.ops.getD 6 0,
      c.ops.getD 7 0, c.ops.getD 8 0⟩ →
    ∃ t, Completes .classWrite s t ∧ ({ t with cip := s.cip, line := s.line } : State) = s ∧
      ({ t.line with replies := s.line.replies } : Line) = s.line ∧ t.cip.inbox = rest ∧
      (s.straps.commission = false → t.cip.proc = .free ∧
        s.Answered t c ⟨c.src, 9, .refuse, .notCommissioning, 0, 0, [0, 0, 0, 0, 0, 0, 0]⟩) ∧
      (s.straps.commission = true →
        if c.ops.getD 0 0 ≤ 7 ∧ 120 ≤ e.target ∧ e.target ≤ 190 ∧ 110 ≤ e.floor ∧ e.floor + 2 ≤ e.target ∧
          1 ≤ e.longest ∧ e.longest ≤ 240 ∧ 60 ≤ e.coldLimit ∧ e.coldLimit ≤ 1800 ∧ e.grace ≤ 60 ∧ 1 ≤ e.keepOn ∧
          e.keepOn ≤ 30 ∧ 1 ≤ e.keepOff ∧ e.keepOff ≤ 60
        then t.line = s.line ∧ t.cip.proc = .writing ⟨c.ops.getD 0 0, e, c.src, c.dest, 0⟩
        else t.cip.proc = .free ∧ s.Answered t c ⟨c.src, 9, .refuse, .badValue, 0, 0, [0, 0, 0, 0, 0, 0, 0]⟩)) ∧
  (∀ (s : State) (w : ClassWrite), s.cip.proc = .writing w →
    ∃ t, Completes .classWriteEnd s t ∧ t.cip = ⟨s.cip.inbox, .free⟩ ∧
      t.time = { s.time with
        classes := s.time.classes.set w.index (some w.entry), store := s.time.store.set w.index (some w.entry) } ∧
      t.line = { s.line with replies :=
        if w.dest = 31 ∨ s.line.inStep = false ∨ s.line.listenOnly = true ∨ 4 ≤ s.line.replies.length then s.line.replies
        else s.line.replies ++ [⟨⟨w.src, 9, .accept, .none, 0, 0, [0, 0, 0, 0, 0, 0, 0]⟩, 0⟩] } ∧
      ({ t with cip := s.cip, line := s.line, time := s.time } : State) = s)

/-! ### Keypad -/

/-- R173 to R175, R178 to R180: DIGIT, CLEAR, KEY_REJECT, KEYS_RELEASED, ENTRY_TIMEOUT, STRIKE_AGED_OUT, LOCKOUT_END and
BEEPER_PATTERN_END. R178: the tones and silences of the beeper output, in units of 10 µs. -/
def Obligations.KeysAndTimersMoveKeypad : Prop :=
  (∀ (d : Nat) (s : State), s.keypad.scan = .up → ∃ t, Completes (.digitKey d) s t ∧
    ({ t with keypad := s.keypad, pins := s.pins } : State) = s ∧ t.keypad.scan = .down ∧
    t.keypad.strikes = s.keypad.strikes ∧ t.keypad.lockout = s.keypad.lockout ∧ t.keypad.beeper = s.keypad.beeper ∧
    (s.keypad.lockout.isSome = true → t.keypad.buffer = s.keypad.buffer ∧ t.keypad.overlong = s.keypad.overlong ∧
      t.keypad.entryTimer = s.keypad.entryTimer) ∧
    (s.keypad.lockout = none → t.keypad.entryTimer = some 0 ∧
      if s.keypad.buffer.length < 8 then t.keypad.buffer = s.keypad.buffer ++ [d] ∧ t.keypad.overlong = s.keypad.overlong
      else t.keypad.buffer = s.keypad.buffer ∧ t.keypad.overlong = true)) ∧
  (∀ s : State, s.keypad.scan = .up → ∃ t, Completes .clearKey s t ∧
    ({ t with keypad := s.keypad, pins := s.pins } : State) = s ∧ t.keypad.scan = .down ∧
    t.keypad.strikes = s.keypad.strikes ∧ t.keypad.lockout = s.keypad.lockout ∧ t.keypad.beeper = s.keypad.beeper ∧
    (s.keypad.lockout.isSome = true → t.keypad.buffer = s.keypad.buffer ∧ t.keypad.overlong = s.keypad.overlong ∧
      t.keypad.entryTimer = s.keypad.entryTimer) ∧
    (s.keypad.lockout = none → t.keypad.buffer = [] ∧ t.keypad.overlong = false ∧ t.keypad.entryTimer = none)) ∧
  (∀ (k₁ k₂ : Key) (s : State), ∃ t, Completes (.keyReject k₁ k₂) s t ∧ t.keypad.scan = .reject ∧
    ({ t.keypad with scan := s.keypad.scan, scanKey := s.keypad.scanKey, settle := s.keypad.settle } : Keypad) = s.keypad ∧
    ({ t with keypad := s.keypad, pins := s.pins } : State) = s) ∧
  (∀ s : State, ∃ t, Completes .keysReleased s t ∧ t.keypad.scan = .up ∧ t.keypad.settle = none ∧
    ({ t.keypad with scan := s.keypad.scan, scanKey := s.keypad.scanKey, settle := s.keypad.settle } : Keypad) = s.keypad ∧
    ({ t with keypad := s.keypad, pins := s.pins } : State) = s) ∧
  (∀ s : State, s.keypad.entryTimer.isSome = true → Completes .entryTimeout s
    { s with keypad := { s.keypad with buffer := [], overlong := false, entryTimer := none } }) ∧
  (∀ (s : State) (age : Nat) (rest : List Nat), s.keypad.strikes = age :: rest → Completes .strikeAgedOut s
    { s with keypad := { s.keypad with strikes := rest } }) ∧
  (∀ s : State, Completes .lockoutEnd s { s with keypad := { s.keypad with lockout := none } }) ∧
  (∀ s : State, Completes .beeperPatternEnd s { s with keypad := { s.keypad with beeper := none } }) ∧
  (∀ s : State, (s.keypad.beeper = none → s.beepOut = false) ∧
    ∀ pattern n, s.keypad.beeper = some ⟨pattern, n⟩ → (s.beepOut = true ↔ match pattern with
      | .ack => n < 10000
      | .accept => n < 10000 ∨ (20000 ≤ n ∧ n < 30000)
      | .wait => n < 50000
      | .alert => n < 50000 ∨ (60000 ≤ n ∧ n < 110000)
      | .lockout => n < 10000 ∨ (20000 ≤ n ∧ n < 30000) ∨ (40000 ≤ n ∧ n < 50000)))

/-- R10, R25, R174 to R180: ENTER. -/
def Obligations.EnterJudgesEntry : Prop :=
  ∀ s : State, s.keypad.scan = .up → s.OneHolder → ∃ t, Completes .enterKey s t ∧ t.keypad.scan = .down ∧
    (s.keypad.lockout.isSome = true → ({ t with keypad := s.keypad, pins := s.pins } : State) = s ∧
      ({ t.keypad with scan := .up, scanKey := s.keypad.scanKey, settle := s.keypad.settle } : Keypad) = s.keypad) ∧
    (s.keypad.lockout = none → t.keypad.buffer = [] ∧ t.keypad.overlong = false ∧ t.keypad.entryTimer = none ∧
      (s.keypad.buffer = [] → s.keypad.overlong = false → t.keypad.strikes = s.keypad.strikes ∧
        t.keypad.beeper = s.keypad.beeper ∧ t.keypad.lockout = none ∧
        ({ t with keypad := s.keypad, pins := s.pins } : State) = s) ∧
      ((s.keypad.overlong = true ∨ s.keypad.buffer.length = 1 ∨ s.keypad.buffer.length = 2 ∨
          ∃ front a b, s.keypad.buffer = front ++ [a, b] ∧ front ≠ [] ∧
            ∀ i r o, s.HeldAt (front.foldl (fun n d => n * 10 + d) 0) i r o → o.digits ≠ a * 10 + b) →
        ({ t with keypad := s.keypad, pins := s.pins } : State) = s ∧
        if s.keypad.strikes.length < 2 then t.keypad.strikes = s.keypad.strikes ++ [0] ∧ t.keypad.lockout = none ∧
          t.keypad.beeper = some ⟨.alert, 0⟩
        else t.keypad.strikes = [] ∧ t.keypad.lockout = some 0 ∧ t.keypad.beeper = some ⟨.lockout, 0⟩) ∧
      (∀ front a b i r o, s.keypad.overlong = false → s.keypad.buffer = front ++ [a, b] → front ≠ [] →
        s.HeldAt (front.foldl (fun n d => n * 10 + d) 0) i r o → o.digits = a * 10 + b → r.state ≠ .vacant →
        r.state ≠ .blocked → t.keypad.strikes = s.keypad.strikes ∧ t.keypad.lockout = none ∧
        (r.state = .releasing → t.keypad.beeper = some ⟨.ack, 0⟩ ∧
          ({ t with keypad := s.keypad, pins := s.pins } : State) = s) ∧
        ((r.state = .reserved ∨ r.state = .loading) → t.keypad.beeper = some ⟨.wait, 0⟩ ∧
          ({ t with keypad := s.keypad, pins := s.pins } : State) = s) ∧
        ((r.state = .retired ∨ r.state = .fault) → t.keypad.beeper = some ⟨.alert, 0⟩ ∧
          ({ t with keypad := s.keypad, pins := s.pins } : State) = s) ∧
        (r.state = .holding → r.doorOpen = false → s.LatchLaw → t.keypad.beeper = some ⟨.accept, 0⟩ ∧
          t.latch = s.latch.requested i s.time.supplyLow ∧ t.line = s.line ∧
          (∃ q, t.locker? i = some q ∧ q.level ≤ 7 ∧
            ({ q with phase := r.phase, keepOn := r.keepOn, keepCount := r.keepCount, level := r.level } : Locker) =
              { r with
                state := .releasing, attempts := 0,
                cycle := if s.latch.pulse = none ∧ s.time.supplyLow = false then .pulsing else .queued } ∧
            t.grant = { s.grant with list := if q.level = 0 then s.grant.list.filter (· != i) else s.grant.list }) ∧
          s.OthersKept t i ∧ s.LockerSideOnly { t with keypad := s.keypad })))
end

