-- ==== Sys2Proof/Laws/State.lean ====
section
/-! SUPPORT. One lemma for each field under each update of a block, so that no proof unfolds a record update. -/

namespace Sys2Proof.Machine

/-! ### withTime -/

@[simp] theorem State.withTime_straps (s : State) (x : Timebase) : (s.withTime x).straps = s.straps := rfl
@[simp] theorem State.withTime_time (s : State) (x : Timebase) : (s.withTime x).time = x := rfl
@[simp] theorem State.withTime_lockers (s : State) (x : Timebase) : (s.withTime x).lockers = s.lockers := rfl
@[simp] theorem State.withTime_scanAt (s : State) (x : Timebase) : (s.withTime x).scanAt = s.scanAt := rfl
@[simp] theorem State.withTime_latch (s : State) (x : Timebase) : (s.withTime x).latch = s.latch := rfl
@[simp] theorem State.withTime_keypad (s : State) (x : Timebase) : (s.withTime x).keypad = s.keypad := rfl
@[simp] theorem State.withTime_book (s : State) (x : Timebase) : (s.withTime x).book = s.book := rfl
@[simp] theorem State.withTime_share (s : State) (x : Timebase) : (s.withTime x).share = s.share := rfl
@[simp] theorem State.withTime_grant (s : State) (x : Timebase) : (s.withTime x).grant = s.grant := rfl
@[simp] theorem State.withTime_line (s : State) (x : Timebase) : (s.withTime x).line = s.line := rfl
@[simp] theorem State.withTime_cip (s : State) (x : Timebase) : (s.withTime x).cip = s.cip := rfl
@[simp] theorem State.withTime_lamp (s : State) (x : Timebase) : (s.withTime x).lamp = s.lamp := rfl
@[simp] theorem State.withTime_pins (s : State) (x : Timebase) : (s.withTime x).pins = s.pins := rfl
@[simp] theorem State.withTime_owed (s : State) (x : Timebase) : (s.withTime x).owed = s.owed := rfl
@[simp] theorem State.withTime_ties (s : State) (x : Timebase) : (s.withTime x).ties = s.ties := rfl
@[simp] theorem State.withTime_pending (s : State) (x : Timebase) : (s.withTime x).pending = s.pending := rfl

/-! ### withLockers -/

@[simp] theorem State.withLockers_straps (s : State) (x : List Locker) : (s.withLockers x).straps = s.straps := rfl
@[simp] theorem State.withLockers_time (s : State) (x : List Locker) : (s.withLockers x).time = s.time := rfl
@[simp] theorem State.withLockers_lockers (s : State) (x : List Locker) : (s.withLockers x).lockers = x := rfl
@[simp] theorem State.withLockers_scanAt (s : State) (x : List Locker) : (s.withLockers x).scanAt = s.scanAt := rfl
@[simp] theorem State.withLockers_latch (s : State) (x : List Locker) : (s.withLockers x).latch = s.latch := rfl
@[simp] theorem State.withLockers_keypad (s : State) (x : List Locker) : (s.withLockers x).keypad = s.keypad := rfl
@[simp] theorem State.withLockers_book (s : State) (x : List Locker) : (s.withLockers x).book = s.book := rfl
@[simp] theorem State.withLockers_share (s : State) (x : List Locker) : (s.withLockers x).share = s.share := rfl
@[simp] theorem State.withLockers_grant (s : State) (x : List Locker) : (s.withLockers x).grant = s.grant := rfl
@[simp] theorem State.withLockers_line (s : State) (x : List Locker) : (s.withLockers x).line = s.line := rfl
@[simp] theorem State.withLockers_cip (s : State) (x : List Locker) : (s.withLockers x).cip = s.cip := rfl
@[simp] theorem State.withLockers_lamp (s : State) (x : List Locker) : (s.withLockers x).lamp = s.lamp := rfl
@[simp] theorem State.withLockers_pins (s : State) (x : List Locker) : (s.withLockers x).pins = s.pins := rfl
@[simp] theorem State.withLockers_owed (s : State) (x : List Locker) : (s.withLockers x).owed = s.owed := rfl
@[simp] theorem State.withLockers_ties (s : State) (x : List Locker) : (s.withLockers x).ties = s.ties := rfl
@[simp] theorem State.withLockers_pending (s : State) (x : List Locker) : (s.withLockers x).pending = s.pending := rfl

/-! ### withLatch -/

@[simp] theorem State.withLatch_straps (s : State) (x : Latch) : (s.withLatch x).straps = s.straps := rfl
@[simp] theorem State.withLatch_time (s : State) (x : Latch) : (s.withLatch x).time = s.time := rfl
@[simp] theorem State.withLatch_lockers (s : State) (x : Latch) : (s.withLatch x).lockers = s.lockers := rfl
@[simp] theorem State.withLatch_scanAt (s : State) (x : Latch) : (s.withLatch x).scanAt = s.scanAt := rfl
@[simp] theorem State.withLatch_latch (s : State) (x : Latch) : (s.withLatch x).latch = x := rfl
@[simp] theorem State.withLatch_keypad (s : State) (x : Latch) : (s.withLatch x).keypad = s.keypad := rfl
@[simp] theorem State.withLatch_book (s : State) (x : Latch) : (s.withLatch x).book = s.book := rfl
@[simp] theorem State.withLatch_share (s : State) (x : Latch) : (s.withLatch x).share = s.share := rfl
@[simp] theorem State.withLatch_grant (s : State) (x : Latch) : (s.withLatch x).grant = s.grant := rfl
@[simp] theorem State.withLatch_line (s : State) (x : Latch) : (s.withLatch x).line = s.line := rfl
@[simp] theorem State.withLatch_cip (s : State) (x : Latch) : (s.withLatch x).cip = s.cip := rfl
@[simp] theorem State.withLatch_lamp (s : State) (x : Latch) : (s.withLatch x).lamp = s.lamp := rfl
@[simp] theorem State.withLatch_pins (s : State) (x : Latch) : (s.withLatch x).pins = s.pins := rfl
@[simp] theorem State.withLatch_owed (s : State) (x : Latch) : (s.withLatch x).owed = s.owed := rfl
@[simp] theorem State.withLatch_ties (s : State) (x : Latch) : (s.withLatch x).ties = s.ties := rfl
@[simp] theorem State.withLatch_pending (s : State) (x : Latch) : (s.withLatch x).pending = s.pending := rfl

/-! ### withKeypad -/

@[simp] theorem State.withKeypad_straps (s : State) (x : Keypad) : (s.withKeypad x).straps = s.straps := rfl
@[simp] theorem State.withKeypad_time (s : State) (x : Keypad) : (s.withKeypad x).time = s.time := rfl
@[simp] theorem State.withKeypad_lockers (s : State) (x : Keypad) : (s.withKeypad x).lockers = s.lockers := rfl
@[simp] theorem State.withKeypad_scanAt (s : State) (x : Keypad) : (s.withKeypad x).scanAt = s.scanAt := rfl
@[simp] theorem State.withKeypad_latch (s : State) (x : Keypad) : (s.withKeypad x).latch = s.latch := rfl
@[simp] theorem State.withKeypad_keypad (s : State) (x : Keypad) : (s.withKeypad x).keypad = x := rfl
@[simp] theorem State.withKeypad_book (s : State) (x : Keypad) : (s.withKeypad x).book = s.book := rfl
@[simp] theorem State.withKeypad_share (s : State) (x : Keypad) : (s.withKeypad x).share = s.share := rfl
@[simp] theorem State.withKeypad_grant (s : State) (x : Keypad) : (s.withKeypad x).grant = s.grant := rfl
@[simp] theorem State.withKeypad_line (s : State) (x : Keypad) : (s.withKeypad x).line = s.line := rfl
@[simp] theorem State.withKeypad_cip (s : State) (x : Keypad) : (s.withKeypad x).cip = s.cip := rfl
@[simp] theorem State.withKeypad_lamp (s : State) (x : Keypad) : (s.withKeypad x).lamp = s.lamp := rfl
@[simp] theorem State.withKeypad_pins (s : State) (x : Keypad) : (s.withKeypad x).pins = s.pins := rfl
@[simp] theorem State.withKeypad_owed (s : State) (x : Keypad) : (s.withKeypad x).owed = s.owed := rfl
@[simp] theorem State.withKeypad_ties (s : State) (x : Keypad) : (s.withKeypad x).ties = s.ties := rfl
@[simp] theorem State.withKeypad_pending (s : State) (x : Keypad) : (s.withKeypad x).pending = s.pending := rfl

/-! ### withBook -/

@[simp] theorem State.withBook_straps (s : State) (x : List BookEntry) : (s.withBook x).straps = s.straps := rfl
@[simp] theorem State.withBook_time (s : State) (x : List BookEntry) : (s.withBook x).time = s.time := rfl
@[simp] theorem State.withBook_lockers (s : State) (x : List BookEntry) : (s.withBook x).lockers = s.lockers := rfl
@[simp] theorem State.withBook_scanAt (s : State) (x : List BookEntry) : (s.withBook x).scanAt = s.scanAt := rfl
@[simp] theorem State.withBook_latch (s : State) (x : List BookEntry) : (s.withBook x).latch = s.latch := rfl
@[simp] theorem State.withBook_keypad (s : State) (x : List BookEntry) : (s.withBook x).keypad = s.keypad := rfl
@[simp] theorem State.withBook_book (s : State) (x : List BookEntry) : (s.withBook x).book = x := rfl
@[simp] theorem State.withBook_share (s : State) (x : List BookEntry) : (s.withBook x).share = s.share := rfl
@[simp] theorem State.withBook_grant (s : State) (x : List BookEntry) : (s.withBook x).grant = s.grant := rfl
@[simp] theorem State.withBook_line (s : State) (x : List BookEntry) : (s.withBook x).line = s.line := rfl
@[simp] theorem State.withBook_cip (s : State) (x : List BookEntry) : (s.withBook x).cip = s.cip := rfl
@[simp] theorem State.withBook_lamp (s : State) (x : List BookEntry) : (s.withBook x).lamp = s.lamp := rfl
@[simp] theorem State.withBook_pins (s : State) (x : List BookEntry) : (s.withBook x).pins = s.pins := rfl
@[simp] theorem State.withBook_owed (s : State) (x : List BookEntry) : (s.withBook x).owed = s.owed := rfl
@[simp] theorem State.withBook_ties (s : State) (x : List BookEntry) : (s.withBook x).ties = s.ties := rfl
@[simp] theorem State.withBook_pending (s : State) (x : List BookEntry) : (s.withBook x).pending = s.pending := rfl

/-! ### withShare -/

@[simp] theorem State.withShare_straps (s : State) (x : Share) : (s.withShare x).straps = s.straps := rfl
@[simp] theorem State.withShare_time (s : State) (x : Share) : (s.withShare x).time = s.time := rfl
@[simp] theorem State.withShare_lockers (s : State) (x : Share) : (s.withShare x).lockers = s.lockers := rfl
@[simp] theorem State.withShare_scanAt (s : State) (x : Share) : (s.withShare x).scanAt = s.scanAt := rfl
@[simp] theorem State.withShare_latch (s : State) (x : Share) : (s.withShare x).latch = s.latch := rfl
@[simp] theorem State.withShare_keypad (s : State) (x : Share) : (s.withShare x).keypad = s.keypad := rfl
@[simp] theorem State.withShare_book (s : State) (x : Share) : (s.withShare x).book = s.book := rfl
@[simp] theorem State.withShare_share (s : State) (x : Share) : (s.withShare x).share = x := rfl
@[simp] theorem State.withShare_grant (s : State) (x : Share) : (s.withShare x).grant = s.grant := rfl
@[simp] theorem State.withShare_line (s : State) (x : Share) : (s.withShare x).line = s.line := rfl
@[simp] theorem State.withShare_cip (s : State) (x : Share) : (s.withShare x).cip = s.cip := rfl
@[simp] theorem State.withShare_lamp (s : State) (x : Share) : (s.withShare x).lamp = s.lamp := rfl
@[simp] theorem State.withShare_pins (s : State) (x : Share) : (s.withShare x).pins = s.pins := rfl
@[simp] theorem State.withShare_owed (s : State) (x : Share) : (s.withShare x).owed = s.owed := rfl
@[simp] theorem State.withShare_ties (s : State) (x : Share) : (s.withShare x).ties = s.ties := rfl
@[simp] theorem State.withShare_pending (s : State) (x : Share) : (s.withShare x).pending = s.pending := rfl

/-! ### withGrant -/

@[simp] theorem State.withGrant_straps (s : State) (x : Grant) : (s.withGrant x).straps = s.straps := rfl
@[simp] theorem State.withGrant_time (s : State) (x : Grant) : (s.withGrant x).time = s.time := rfl
@[simp] theorem State.withGrant_lockers (s : State) (x : Grant) : (s.withGrant x).lockers = s.lockers := rfl
@[simp] theorem State.withGrant_scanAt (s : State) (x : Grant) : (s.withGrant x).scanAt = s.scanAt := rfl
@[simp] theorem State.withGrant_latch (s : State) (x : Grant) : (s.withGrant x).latch = s.latch := rfl
@[simp] theorem State.withGrant_keypad (s : State) (x : Grant) : (s.withGrant x).keypad = s.keypad := rfl
@[simp] theorem State.withGrant_book (s : State) (x : Grant) : (s.withGrant x).book = s.book := rfl
@[simp] theorem State.withGrant_share (s : State) (x : Grant) : (s.withGrant x).share = s.share := rfl
@[simp] theorem State.withGrant_grant (s : State) (x : Grant) : (s.withGrant x).grant = x := rfl
@[simp] theorem State.withGrant_line (s : State) (x : Grant) : (s.withGrant x).line = s.line := rfl
@[simp] theorem State.withGrant_cip (s : State) (x : Grant) : (s.withGrant x).cip = s.cip := rfl
@[simp] theorem State.withGrant_lamp (s : State) (x : Grant) : (s.withGrant x).lamp = s.lamp := rfl
@[simp] theorem State.withGrant_pins (s : State) (x : Grant) : (s.withGrant x).pins = s.pins := rfl
@[simp] theorem State.withGrant_owed (s : State) (x : Grant) : (s.withGrant x).owed = s.owed := rfl
@[simp] theorem State.withGrant_ties (s : State) (x : Grant) : (s.withGrant x).ties = s.ties := rfl
@[simp] theorem State.withGrant_pending (s : State) (x : Grant) : (s.withGrant x).pending = s.pending := rfl

/-! ### withLine -/

@[simp] theorem State.withLine_straps (s : State) (x : Line) : (s.withLine x).straps = s.straps := rfl
@[simp] theorem State.withLine_time (s : State) (x : Line) : (s.withLine x).time = s.time := rfl
@[simp] theorem State.withLine_lockers (s : State) (x : Line) : (s.withLine x).lockers = s.lockers := rfl
@[simp] theorem State.withLine_scanAt (s : State) (x : Line) : (s.withLine x).scanAt = s.scanAt := rfl
@[simp] theorem State.withLine_latch (s : State) (x : Line) : (s.withLine x).latch = s.latch := rfl
@[simp] theorem State.withLine_keypad (s : State) (x : Line) : (s.withLine x).keypad = s.keypad := rfl
@[simp] theorem State.withLine_book (s : State) (x : Line) : (s.withLine x).book = s.book := rfl
@[simp] theorem State.withLine_share (s : State) (x : Line) : (s.withLine x).share = s.share := rfl
@[simp] theorem State.withLine_grant (s : State) (x : Line) : (s.withLine x).grant = s.grant := rfl
@[simp] theorem State.withLine_line (s : State) (x : Line) : (s.withLine x).line = x := rfl
@[simp] theorem State.withLine_cip (s : State) (x : Line) : (s.withLine x).cip = s.cip := rfl
@[simp] theorem State.withLine_lamp (s : State) (x : Line) : (s.withLine x).lamp = s.lamp := rfl
@[simp] theorem State.withLine_pins (s : State) (x : Line) : (s.withLine x).pins = s.pins := rfl
@[simp] theorem State.withLine_owed (s : State) (x : Line) : (s.withLine x).owed = s.owed := rfl
@[simp] theorem State.withLine_ties (s : State) (x : Line) : (s.withLine x).ties = s.ties := rfl
@[simp] theorem State.withLine_pending (s : State) (x : Line) : (s.withLine x).pending = s.pending := rfl

/-! ### withCip -/

@[simp] theorem State.withCip_straps (s : State) (x : Cip) : (s.withCip x).straps = s.straps := rfl
@[simp] theorem State.withCip_time (s : State) (x : Cip) : (s.withCip x).time = s.time := rfl
@[simp] theorem State.withCip_lockers (s : State) (x : Cip) : (s.withCip x).lockers = s.lockers := rfl
@[simp] theorem State.withCip_scanAt (s : State) (x : Cip) : (s.withCip x).scanAt = s.scanAt := rfl
@[simp] theorem State.withCip_latch (s : State) (x : Cip) : (s.withCip x).latch = s.latch := rfl
@[simp] theorem State.withCip_keypad (s : State) (x : Cip) : (s.withCip x).keypad = s.keypad := rfl
@[simp] theorem State.withCip_book (s : State) (x : Cip) : (s.withCip x).book = s.book := rfl
@[simp] theorem State.withCip_share (s : State) (x : Cip) : (s.withCip x).share = s.share := rfl
@[simp] theorem State.withCip_grant (s : State) (x : Cip) : (s.withCip x).grant = s.grant := rfl
@[simp] theorem State.withCip_line (s : State) (x : Cip) : (s.withCip x).line = s.line := rfl
@[simp] theorem State.withCip_cip (s : State) (x : Cip) : (s.withCip x).cip = x := rfl
@[simp] theorem State.withCip_lamp (s : State) (x : Cip) : (s.withCip x).lamp = s.lamp := rfl
@[simp] theorem State.withCip_pins (s : State) (x : Cip) : (s.withCip x).pins = s.pins := rfl
@[simp] theorem State.withCip_owed (s : State) (x : Cip) : (s.withCip x).owed = s.owed := rfl
@[simp] theorem State.withCip_ties (s : State) (x : Cip) : (s.withCip x).ties = s.ties := rfl
@[simp] theorem State.withCip_pending (s : State) (x : Cip) : (s.withCip x).pending = s.pending := rfl

/-! ### withLamp -/

@[simp] theorem State.withLamp_straps (s : State) (x : LampChain) : (s.withLamp x).straps = s.straps := rfl
@[simp] theorem State.withLamp_time (s : State) (x : LampChain) : (s.withLamp x).time = s.time := rfl
@[simp] theorem State.withLamp_lockers (s : State) (x : LampChain) : (s.withLamp x).lockers = s.lockers := rfl
@[simp] theorem State.withLamp_scanAt (s : State) (x : LampChain) : (s.withLamp x).scanAt = s.scanAt := rfl
@[simp] theorem State.withLamp_latch (s : State) (x : LampChain) : (s.withLamp x).latch = s.latch := rfl
@[simp] theorem State.withLamp_keypad (s : State) (x : LampChain) : (s.withLamp x).keypad = s.keypad := rfl
@[simp] theorem State.withLamp_book (s : State) (x : LampChain) : (s.withLamp x).book = s.book := rfl
@[simp] theorem State.withLamp_share (s : State) (x : LampChain) : (s.withLamp x).share = s.share := rfl
@[simp] theorem State.withLamp_grant (s : State) (x : LampChain) : (s.withLamp x).grant = s.grant := rfl
@[simp] theorem State.withLamp_line (s : State) (x : LampChain) : (s.withLamp x).line = s.line := rfl
@[simp] theorem State.withLamp_cip (s : State) (x : LampChain) : (s.withLamp x).cip = s.cip := rfl
@[simp] theorem State.withLamp_lamp (s : State) (x : LampChain) : (s.withLamp x).lamp = x := rfl
@[simp] theorem State.withLamp_pins (s : State) (x : LampChain) : (s.withLamp x).pins = s.pins := rfl
@[simp] theorem State.withLamp_owed (s : State) (x : LampChain) : (s.withLamp x).owed = s.owed := rfl
@[simp] theorem State.withLamp_ties (s : State) (x : LampChain) : (s.withLamp x).ties = s.ties := rfl
@[simp] theorem State.withLamp_pending (s : State) (x : LampChain) : (s.withLamp x).pending = s.pending := rfl

/-! ### withPins -/

@[simp] theorem State.withPins_straps (s : State) (x : Pins) : (s.withPins x).straps = s.straps := rfl
@[simp] theorem State.withPins_time (s : State) (x : Pins) : (s.withPins x).time = s.time := rfl
@[simp] theorem State.withPins_lockers (s : State) (x : Pins) : (s.withPins x).lockers = s.lockers := rfl
@[simp] theorem State.withPins_scanAt (s : State) (x : Pins) : (s.withPins x).scanAt = s.scanAt := rfl
@[simp] theorem State.withPins_latch (s : State) (x : Pins) : (s.withPins x).latch = s.latch := rfl
@[simp] theorem State.withPins_keypad (s : State) (x : Pins) : (s.withPins x).keypad = s.keypad := rfl
@[simp] theorem State.withPins_book (s : State) (x : Pins) : (s.withPins x).book = s.book := rfl
@[simp] theorem State.withPins_share (s : State) (x : Pins) : (s.withPins x).share = s.share := rfl
@[simp] theorem State.withPins_grant (s : State) (x : Pins) : (s.withPins x).grant = s.grant := rfl
@[simp] theorem State.withPins_line (s : State) (x : Pins) : (s.withPins x).line = s.line := rfl
@[simp] theorem State.withPins_cip (s : State) (x : Pins) : (s.withPins x).cip = s.cip := rfl
@[simp] theorem State.withPins_lamp (s : State) (x : Pins) : (s.withPins x).lamp = s.lamp := rfl
@[simp] theorem State.withPins_pins (s : State) (x : Pins) : (s.withPins x).pins = x := rfl
@[simp] theorem State.withPins_owed (s : State) (x : Pins) : (s.withPins x).owed = s.owed := rfl
@[simp] theorem State.withPins_ties (s : State) (x : Pins) : (s.withPins x).ties = s.ties := rfl
@[simp] theorem State.withPins_pending (s : State) (x : Pins) : (s.withPins x).pending = s.pending := rfl

/-! ### What is read from one block alone -/

@[simp] theorem State.withTime_locker? (s : State) (x : Timebase) (i : Nat) : (s.withTime x).locker? i = s.locker? i := rfl
@[simp] theorem State.withTime_indices (s : State) (x : Timebase) : (s.withTime x).indices = s.indices := rfl
@[simp] theorem State.withTime_count (s : State) (x : Timebase) : (s.withTime x).count = s.count := rfl
@[simp] theorem State.withTime_holder? (s : State) (x : Timebase) (n : Nat) : (s.withTime x).holder? n = s.holder? n := rfl
@[simp] theorem State.withLatch_locker? (s : State) (x : Latch) (i : Nat) : (s.withLatch x).locker? i = s.locker? i := rfl
@[simp] theorem State.withLatch_indices (s : State) (x : Latch) : (s.withLatch x).indices = s.indices := rfl
@[simp] theorem State.withLatch_count (s : State) (x : Latch) : (s.withLatch x).count = s.count := rfl
@[simp] theorem State.withLatch_holder? (s : State) (x : Latch) (n : Nat) : (s.withLatch x).holder? n = s.holder? n := rfl
@[simp] theorem State.withKeypad_locker? (s : State) (x : Keypad) (i : Nat) : (s.withKeypad x).locker? i = s.locker? i := rfl
@[simp] theorem State.withKeypad_indices (s : State) (x : Keypad) : (s.withKeypad x).indices = s.indices := rfl
@[simp] theorem State.withKeypad_count (s : State) (x : Keypad) : (s.withKeypad x).count = s.count := rfl
@[simp] theorem State.withKeypad_holder? (s : State) (x : Keypad) (n : Nat) : (s.withKeypad x).holder? n = s.holder? n := rfl
@[simp] theorem State.withBook_locker? (s : State) (x : List BookEntry) (i : Nat) : (s.withBook x).locker? i = s.locker? i := rfl
@[simp] theorem State.withBook_indices (s : State) (x : List BookEntry) : (s.withBook x).indices = s.indices := rfl
@[simp] theorem State.withBook_count (s : State) (x : List BookEntry) : (s.withBook x).count = s.count := rfl
@[simp] theorem State.withBook_holder? (s : State) (x : List BookEntry) (n : Nat) : (s.withBook x).holder? n = s.holder? n := rfl
@[simp] theorem State.withShare_locker? (s : State) (x : Share) (i : Nat) : (s.withShare x).locker? i = s.locker? i := rfl
@[simp] theorem State.withShare_indices (s : State) (x : Share) : (s.withShare x).indices = s.indices := rfl
@[simp] theorem State.withShare_count (s : State) (x : Share) : (s.withShare x).count = s.count := rfl
@[simp] theorem State.withShare_holder? (s : State) (x : Share) (n : Nat) : (s.withShare x).holder? n = s.holder? n := rfl
@[simp] theorem State.withGrant_locker? (s : State) (x : Grant) (i : Nat) : (s.withGrant x).locker? i = s.locker? i := rfl
@[simp] theorem State.withGrant_indices (s : State) (x : Grant) : (s.withGrant x).indices = s.indices := rfl
@[simp] theorem State.withGrant_count (s : State) (x : Grant) : (s.withGrant x).count = s.count := rfl
@[simp] theorem State.withGrant_holder? (s : State) (x : Grant) (n : Nat) : (s.withGrant x).holder? n = s.holder? n := rfl
@[simp] theorem State.withLine_locker? (s : State) (x : Line) (i : Nat) : (s.withLine x).locker? i = s.locker? i := rfl
@[simp] theorem State.withLine_indices (s : State) (x : Line) : (s.withLine x).indices = s.indices := rfl
@[simp] theorem State.withLine_count (s : State) (x : Line) : (s.withLine x).count = s.count := rfl
@[simp] theorem State.withLine_holder? (s : State) (x : Line) (n : Nat) : (s.withLine x).holder? n = s.holder? n := rfl
@[simp] theorem State.withCip_locker? (s : State) (x : Cip) (i : Nat) : (s.withCip x).locker? i = s.locker? i := rfl
@[simp] theorem State.withCip_indices (s : State) (x : Cip) : (s.withCip x).indices = s.indices := rfl
@[simp] theorem State.withCip_count (s : State) (x : Cip) : (s.withCip x).count = s.count := rfl
@[simp] theorem State.withCip_holder? (s : State) (x : Cip) (n : Nat) : (s.withCip x).holder? n = s.holder? n := rfl
@[simp] theorem State.withLamp_locker? (s : State) (x : LampChain) (i : Nat) : (s.withLamp x).locker? i = s.locker? i := rfl
@[simp] theorem State.withLamp_indices (s : State) (x : LampChain) : (s.withLamp x).indices = s.indices := rfl
@[simp] theorem State.withLamp_count (s : State) (x : LampChain) : (s.withLamp x).count = s.count := rfl
@[simp] theorem State.withLamp_holder? (s : State) (x : LampChain) (n : Nat) : (s.withLamp x).holder? n = s.holder? n := rfl
@[simp] theorem State.withPins_locker? (s : State) (x : Pins) (i : Nat) : (s.withPins x).locker? i = s.locker? i := rfl
@[simp] theorem State.withPins_indices (s : State) (x : Pins) : (s.withPins x).indices = s.indices := rfl
@[simp] theorem State.withPins_count (s : State) (x : Pins) : (s.withPins x).count = s.count := rfl
@[simp] theorem State.withPins_holder? (s : State) (x : Pins) (n : Nat) : (s.withPins x).holder? n = s.holder? n := rfl

end Sys2Proof.Machine
end

