-- ==== Sys2Proof/Laws/Ops.lean ====
section
/-! SUPPORT. What each shared operation can do, said once: its value where it acts, and what it leaves unchanged. -/

namespace Sys2Proof.Machine

/-! ### Indices and records -/

theorem State.mem_indices {s : State} {i : Nat} : i ∈ s.indices ↔ 1 ≤ i ∧ i ≤ s.count := by
  simp only [State.indices, List.mem_map, List.mem_range]
  constructor
  · rintro ⟨k, hk, rfl⟩; omega
  · rintro ⟨h1, h2⟩; exact ⟨i - 1, by omega, by omega⟩

theorem State.locker?_eq_some {s : State} {i : Nat} {r : Locker} (h : s.locker? i = some r) :
    1 ≤ i ∧ i ≤ s.count ∧ s.lockers[i - 1]? = some r ∧ r ∈ s.lockers := by
  unfold State.locker? at h
  split at h
  · cases h
  · have hlt := (List.getElem?_eq_some_iff.mp h).1
    refine ⟨by omega, ?_, h, List.mem_of_getElem? h⟩
    simp only [State.count]; omega

theorem State.locker?_of_mem_indices {s : State} {i : Nat} (h : i ∈ s.indices) : ∃ r, s.locker? i = some r := by
  obtain ⟨h1, h2⟩ := State.mem_indices.mp h
  have : i - 1 < s.lockers.length := by simp only [State.count] at h2; omega
  exact ⟨s.lockers[i - 1], by simp [State.locker?, show i ≠ 0 by omega, this]⟩

theorem State.mem_lockers_iff {s : State} {r : Locker} : r ∈ s.lockers ↔ ∃ i, s.locker? i = some r := by
  constructor
  · intro h
    obtain ⟨k, hk⟩ := List.mem_iff_getElem?.mp h
    exact ⟨k + 1, by simp [State.locker?, hk]⟩
  · rintro ⟨i, hi⟩; exact (State.locker?_eq_some hi).2.2.2

/-! ### One record, one position's pins -/

/-- `modLocker` changes the record it names and no other. -/
@[simp] theorem State.modLocker_locker? (s : State) (i j : Nat) (f : Locker → Locker) :
    (s.modLocker i f).locker? j = if j = i then (s.locker? j).map f else s.locker? j := by
  by_cases hi : i = 0
  · subst hi
    by_cases hj : j = 0 <;> simp [State.modLocker, State.locker?, hj]
  · by_cases hj : j = 0
    · subst hj; simp [State.locker?]
    · by_cases hij : j = i
      · subst hij; simp [State.modLocker, State.locker?, hj]
      · have : ¬ (i - 1 = j - 1) := by omega
        simp [State.modLocker, State.locker?, hi, hj, hij, this]

/-- What `State.modLocker` leaves unchanged. -/
@[simp] theorem State.modLocker_frame (s : State) (i : Nat) (f : Locker → Locker) :
    (s.modLocker i f).straps = s.straps ∧
    (s.modLocker i f).time = s.time ∧
    (s.modLocker i f).scanAt = s.scanAt ∧
    (s.modLocker i f).latch = s.latch ∧
    (s.modLocker i f).keypad = s.keypad ∧
    (s.modLocker i f).book = s.book ∧
    (s.modLocker i f).share = s.share ∧
    (s.modLocker i f).grant = s.grant ∧
    (s.modLocker i f).line = s.line ∧
    (s.modLocker i f).cip = s.cip ∧
    (s.modLocker i f).lamp = s.lamp ∧
    (s.modLocker i f).pins = s.pins ∧
    (s.modLocker i f).owed = s.owed ∧
    (s.modLocker i f).ties = s.ties ∧
    (s.modLocker i f).pending = s.pending ∧
    (s.modLocker i f).count = s.count := by
  unfold State.modLocker; split <;> simp [State.count]

@[simp] theorem State.modLocker_indices (s : State) (i : Nat) (f : Locker → Locker) :
    (s.modLocker i f).indices = s.indices := by simp [State.indices]

/-- What `State.modPins` leaves unchanged. -/
@[simp] theorem State.modPins_frame (s : State) (i : Nat) (f : LockerPins → LockerPins) :
    (s.modPins i f).straps = s.straps ∧
    (s.modPins i f).time = s.time ∧
    (s.modPins i f).lockers = s.lockers ∧
    (s.modPins i f).scanAt = s.scanAt ∧
    (s.modPins i f).latch = s.latch ∧
    (s.modPins i f).keypad = s.keypad ∧
    (s.modPins i f).book = s.book ∧
    (s.modPins i f).share = s.share ∧
    (s.modPins i f).grant = s.grant ∧
    (s.modPins i f).line = s.line ∧
    (s.modPins i f).cip = s.cip ∧
    (s.modPins i f).lamp = s.lamp ∧
    (s.modPins i f).owed = s.owed ∧
    (s.modPins i f).ties = s.ties ∧
    (s.modPins i f).pending = s.pending := by
  unfold State.modPins; split <;> simp

@[simp] theorem State.modPins_locker? (s : State) (i j : Nat) (f : LockerPins → LockerPins) :
    (s.modPins i f).locker? j = s.locker? j := by simp [State.locker?]

@[simp] theorem State.modPins_count (s : State) (i : Nat) (f : LockerPins → LockerPins) :
    (s.modPins i f).count = s.count := by simp [State.count]

@[simp] theorem State.modPins_indices (s : State) (i : Nat) (f : LockerPins → LockerPins) :
    (s.modPins i f).indices = s.indices := by simp [State.indices]

/-- What holds of a state and is kept by each visit holds after the records have been taken in order. -/
theorem State.forEach_keeps {P : State → Prop} {f : State → Nat → State} {s : State} (h : P s)
    (hf : ∀ t i, i ∈ s.indices → P t → P (f t i)) : P (s.forEach f) := by
  have : ∀ l : List Nat, (∀ i ∈ l, i ∈ s.indices) → ∀ t, P t → P (l.foldl f t) := by
    intro l
    induction l with
    | nil => intro _ t ht; exact ht
    | cons i l ih =>
      intro hl t ht
      exact ih (fun j hj => hl j (List.mem_cons_of_mem i hj)) _ (hf t i (hl i List.mem_cons_self) ht)
  exact this s.indices (fun _ hi => hi) s h

/-! ### Notices and order frames -/

/-- What `State.notify` leaves unchanged. -/
@[simp] theorem State.notify_frame (s : State) (i : Nat) (e : NoticeEvent) (why : NoticeReason) (n : Nat) :
    (s.notify i e why n).straps = s.straps ∧
    (s.notify i e why n).time = s.time ∧
    (s.notify i e why n).lockers = s.lockers ∧
    (s.notify i e why n).scanAt = s.scanAt ∧
    (s.notify i e why n).latch = s.latch ∧
    (s.notify i e why n).keypad = s.keypad ∧
    (s.notify i e why n).book = s.book ∧
    (s.notify i e why n).share = s.share ∧
    (s.notify i e why n).grant = s.grant ∧
    (s.notify i e why n).cip = s.cip ∧
    (s.notify i e why n).lamp = s.lamp ∧
    (s.notify i e why n).pins = s.pins ∧
    (s.notify i e why n).owed = s.owed ∧
    (s.notify i e why n).ties = s.ties ∧
    (s.notify i e why n).pending = s.pending := by
  simp [State.notify]

@[simp] theorem State.notify_line (s : State) (i : Nat) (e : NoticeEvent) (why : NoticeReason) (n : Nat) :
    (s.notify i e why n).line = s.line.pushNotice ⟨i, e, why, n, false⟩ := rfl

@[simp] theorem State.notify_reads (s : State) (i : Nat) (e : NoticeEvent) (why : NoticeReason) (n : Nat) :
    (∀ j, (s.notify i e why n).locker? j = s.locker? j) ∧ (s.notify i e why n).indices = s.indices ∧
    (s.notify i e why n).count = s.count := ⟨fun _ => rfl, rfl, rfl⟩

/-- R133: the notice list stays within its capacity, and nothing else of the Line Interface changes. -/
theorem Line.pushNotice_length {l : Line} (f : NoticeFrame) (h : l.notices.length ≤ Config.noticeCapacity) :
    (l.pushNotice f).notices.length ≤ Config.noticeCapacity := by
  unfold Line.pushNotice
  split
  · simp; omega
  · have hcap : l.notices.length = 16 := by simp only [Config.noticeCapacity] at *; omega
    simp only [Line.noticesDropped]
    split <;> simp [hcap, Config.noticeCapacity]

/-- R133: the notice list alone changes. -/
@[simp] theorem Line.pushNotice_frame (l : Line) (f : NoticeFrame) :
    (l.pushNotice f).inStep = l.inStep ∧ (l.pushNotice f).listenOnly = l.listenOnly ∧
    (l.pushNotice f).wire = l.wire ∧ (l.pushNotice f).replies = l.replies ∧ (l.pushNotice f).orders = l.orders ∧
    (l.pushNotice f).orderNext = l.orderNext ∧ (l.pushNotice f).demand = l.demand ∧
    (l.pushNotice f).demandNext = l.demandNext ∧ (l.pushNotice f).lineFault = l.lineFault ∧
    (l.pushNotice f).extraWait = l.extraWait ∧ (l.pushNotice f).backoff = l.backoff ∧
    (l.pushNotice f).rx = l.rx ∧ (l.pushNotice f).active = l.active ∧
    (l.pushNotice f).inStepCount = l.inStepCount := by
  unfold Line.pushNotice; split <;> simp

/-- R133: a handed notice stands at the tail, with LAPSE set by an overflow alone. -/
theorem Line.pushNotice_getLast (l : Line) (f : NoticeFrame) :
    (l.pushNotice f).notices.getLast? =
      some ⟨{ f with lapse := decide (Config.noticeCapacity ≤ l.notices.length) }, 0⟩ := by
  unfold Line.pushNotice
  split
  · have : ¬ Config.noticeCapacity ≤ l.notices.length := by omega
    simp [this]
  · have : Config.noticeCapacity ≤ l.notices.length := by omega
    simp [this]

/-- What `State.handOrder` leaves unchanged. -/
@[simp] theorem State.handOrder_frame (s : State) (f : OrderFrame) :
    (s.handOrder f).straps = s.straps ∧
    (s.handOrder f).time = s.time ∧
    (s.handOrder f).lockers = s.lockers ∧
    (s.handOrder f).scanAt = s.scanAt ∧
    (s.handOrder f).latch = s.latch ∧
    (s.handOrder f).keypad = s.keypad ∧
    (s.handOrder f).book = s.book ∧
    (s.handOrder f).share = s.share ∧
    (s.handOrder f).grant = s.grant ∧
    (s.handOrder f).cip = s.cip ∧
    (s.handOrder f).lamp = s.lamp ∧
    (s.handOrder f).pins = s.pins ∧
    (s.handOrder f).owed = s.owed ∧
    (s.handOrder f).ties = s.ties ∧
    (s.handOrder f).pending = s.pending := by
  simp [State.handOrder]

@[simp] theorem State.handOrder_line (s : State) (f : OrderFrame) : (s.handOrder f).line = s.line.handOrder f := rfl

@[simp] theorem State.handOrder_reads (s : State) (f : OrderFrame) :
    (∀ j, (s.handOrder f).locker? j = s.locker? j) ∧ (s.handOrder f).indices = s.indices ∧
    (s.handOrder f).count = s.count := ⟨fun _ => rfl, rfl, rfl⟩

/-- R131, R138: the order list and its pending replacement alone change. -/
@[simp] theorem Line.handOrder_frame (l : Line) (f : OrderFrame) :
    (l.handOrder f).inStep = l.inStep ∧ (l.handOrder f).listenOnly = l.listenOnly ∧
    (l.handOrder f).wire = l.wire ∧ (l.handOrder f).replies = l.replies ∧ (l.handOrder f).notices = l.notices ∧
    (l.handOrder f).demand = l.demand ∧ (l.handOrder f).demandNext = l.demandNext ∧
    (l.handOrder f).lineFault = l.lineFault ∧ (l.handOrder f).extraWait = l.extraWait ∧
    (l.handOrder f).backoff = l.backoff ∧ (l.handOrder f).inStepCount = l.inStepCount := by
  unfold Line.handOrder; split
  · simp
  · split
    · split <;> simp
    · split <;> simp

/-- R114: a re-assertion hands the CLAIM of the record that holds an order, and does nothing where none does. -/
theorem State.reassert_cases (s : State) (i : Nat) :
    s.reassert i = s ∨ ∃ r o, s.locker? i = some r ∧ r.order = some o ∧
      s.reassert i = s.handOrder ⟨o.order, .claim o.score i r.state.pastReserved⟩ := by
  unfold State.reassert
  cases h : s.locker? i with
  | none => exact .inl rfl
  | some r =>
    cases ho : r.order with
    | none => left; simp [ho]
    | some o => exact .inr ⟨r, o, rfl, ho, by simp [ho]⟩

/-! ### Heat levels -/

/-- R49, R66: a recomputation of a record that is there. -/
theorem State.recompute_some {s : State} {i : Nat} {r : Locker} (h : s.locker? i = some r) :
    s.recompute i =
      if (r.recomputed s.time.classes s.time.clock s.straps.commission).level = 0 then
        (s.modLocker i fun _ => r.recomputed s.time.classes s.time.clock s.straps.commission).withGrant
          { s.grant with list := s.grant.list.filter (· != i) }
      else s.modLocker i fun _ => r.recomputed s.time.classes s.time.clock s.straps.commission := by
  simp [State.recompute, h]

theorem State.recompute_none {s : State} {i : Nat} (h : s.locker? i = none) : s.recompute i = s := by
  simp [State.recompute, h]

/-- What `State.recompute` leaves unchanged. -/
@[simp] theorem State.recompute_frame (s : State) (i : Nat) :
    (s.recompute i).straps = s.straps ∧
    (s.recompute i).time = s.time ∧
    (s.recompute i).scanAt = s.scanAt ∧
    (s.recompute i).latch = s.latch ∧
    (s.recompute i).keypad = s.keypad ∧
    (s.recompute i).book = s.book ∧
    (s.recompute i).share = s.share ∧
    (s.recompute i).line = s.line ∧
    (s.recompute i).cip = s.cip ∧
    (s.recompute i).lamp = s.lamp ∧
    (s.recompute i).pins = s.pins ∧
    (s.recompute i).owed = s.owed ∧
    (s.recompute i).ties = s.ties ∧
    (s.recompute i).pending = s.pending ∧
    (s.recompute i).count = s.count := by
  cases h : s.locker? i with
  | none => simp [State.recompute, h]
  | some r => rw [State.recompute_some h]; split <;> simp

@[simp] theorem State.recompute_indices (s : State) (i : Nat) : (s.recompute i).indices = s.indices := by
  simp [State.indices]

/-- The record recomputed, and the others as they stood. -/
@[simp] theorem State.recompute_locker? (s : State) (i j : Nat) :
    (s.recompute i).locker? j =
      if j = i then (s.locker? j).map (·.recomputed s.time.classes s.time.clock s.straps.commission) else s.locker? j := by
  cases h : s.locker? i with
  | none =>
    rw [State.recompute_none h]
    by_cases hj : j = i <;> simp [hj, h]
  | some r =>
    rw [State.recompute_some h]
    by_cases hj : j = i
    · subst hj; split <;> simp [h]
    · split <;> simp [hj]

/-- R66: the list loses the record whose level became 0, and nothing else; the rest of the block stands. -/
theorem State.recompute_grant (s : State) (i : Nat) :
    (s.recompute i).grant = s.grant ∨
    ((s.recompute i).grant = { s.grant with list := s.grant.list.filter (· != i) } ∧
      ∃ r, (s.recompute i).locker? i = some r ∧ r.level = 0) := by
  cases h : s.locker? i with
  | none => left; rw [State.recompute_none h]
  | some r =>
    rw [State.recompute_some h]
    split
    next h0 => right; refine ⟨by simp, ?_⟩; simp [h, h0]
    next => left; simp

/-- R52: a judgement of the phase keeps every field but the phase and the keep cycle. -/
@[simp] theorem Locker.judgePhase_fields (r : Locker) (classes : List (Option ClassEntry)) :
    (r.judgePhase classes).swept = r.swept ∧ (r.judgePhase classes).state = r.state ∧
    (r.judgePhase classes).order = r.order ∧ (r.judgePhase classes).voidPending = r.voidPending ∧
    (r.judgePhase classes).retireReason = r.retireReason ∧ (r.judgePhase classes).faultReason = r.faultReason ∧
    (r.judgePhase classes).cycle = r.cycle ∧ (r.judgePhase classes).attempts = r.attempts ∧
    (r.judgePhase classes).openWait = r.openWait ∧ (r.judgePhase classes).ajar = r.ajar ∧
    (r.judgePhase classes).ajarGiven = r.ajarGiven ∧ (r.judgePhase classes).ready = r.ready ∧
    (r.judgePhase classes).cold = r.cold ∧ (r.judgePhase classes).holdAge = r.holdAge ∧
    (r.judgePhase classes).temp = r.temp ∧ (r.judgePhase classes).seeded = r.seeded ∧
    (r.judgePhase classes).faultRun = r.faultRun ∧ (r.judgePhase classes).doorOpen = r.doorOpen ∧
    (r.judgePhase classes).trayPresent = r.trayPresent ∧ (r.judgePhase classes).doorSettle = r.doorSettle ∧
    (r.judgePhase classes).traySettle = r.traySettle := by
  unfold Locker.judgePhase Locker.enterKeep
  repeat' split
  all_goals simp

/-- R49: a recomputation keeps every field but the phase, the keep cycle and the level. -/
@[simp] theorem Locker.recomputed_fields (r : Locker) (classes : List (Option ClassEntry)) (clock : Option Nat)
    (commission : Bool) :
    (r.recomputed classes clock commission).swept = r.swept ∧
    (r.recomputed classes clock commission).state = r.state ∧
    (r.recomputed classes clock commission).order = r.order ∧
    (r.recomputed classes clock commission).voidPending = r.voidPending ∧
    (r.recomputed classes clock commission).retireReason = r.retireReason ∧
    (r.recomputed classes clock commission).faultReason = r.faultReason ∧
    (r.recomputed classes clock commission).cycle = r.cycle ∧
    (r.recomputed classes clock commission).attempts = r.attempts ∧
    (r.recomputed classes clock commission).openWait = r.openWait ∧
    (r.recomputed classes clock commission).ajar = r.ajar ∧
    (r.recomputed classes clock commission).ajarGiven = r.ajarGiven ∧
    (r.recomputed classes clock commission).ready = r.ready ∧
    (r.recomputed classes clock commission).cold = r.cold ∧
    (r.recomputed classes clock commission).holdAge = r.holdAge ∧
    (r.recomputed classes clock commission).temp = r.temp ∧
    (r.recomputed classes clock commission).seeded = r.seeded ∧
    (r.recomputed classes clock commission).faultRun = r.faultRun ∧
    (r.recomputed classes clock commission).doorOpen = r.doorOpen ∧
    (r.recomputed classes clock commission).trayPresent = r.trayPresent ∧
    (r.recomputed classes clock commission).doorSettle = r.doorSettle ∧
    (r.recomputed classes clock commission).traySettle = r.traySettle := by
  simp [Locker.recomputed]

@[simp] theorem Locker.judgePhase_forcedOff (r : Locker) (classes : List (Option ClassEntry)) (commission : Bool) :
    (r.judgePhase classes).forcedOff commission = r.forcedOff commission := by simp [Locker.forcedOff]

@[simp] theorem Locker.recomputed_forcedOff (r : Locker) (classes : List (Option ClassEntry)) (clock : Option Nat)
    (commission commission' : Bool) :
    (r.recomputed classes clock commission).forcedOff commission' = r.forcedOff commission' := by
  simp [Locker.forcedOff]

/-- R50: a forcing condition gives level 0, whatever the phase. -/
theorem Locker.recomputed_forced {r : Locker} {classes : List (Option ClassEntry)} {clock : Option Nat} {commission : Bool}
    (h : r.forcedOff commission = true) : (r.recomputed classes clock commission).level = 0 := by
  simp [Locker.recomputed, Locker.levelNow, h]

end Sys2Proof.Machine
end

