-- ==== Sys2Proof/Laws/Blocks.lean ====
section
/-! SUPPORT. The laws of the shared operations that reach more than one block: entries into states, the latch queue, door
cycles, isolation, replies, the warm restart and the power conditions. -/

namespace Sys2Proof.Machine

/-! ### Entries into states (R6 to R8, R21) -/

/-- What `State.vacate` leaves unchanged. -/
@[simp] theorem State.vacate_frame (s : State) (i : Nat) :
    (s.vacate i).straps = s.straps ∧
    (s.vacate i).time = s.time ∧
    (s.vacate i).scanAt = s.scanAt ∧
    (s.vacate i).latch = s.latch ∧
    (s.vacate i).keypad = s.keypad ∧
    (s.vacate i).book = s.book ∧
    (s.vacate i).share = s.share ∧
    (s.vacate i).grant = s.grant ∧
    (s.vacate i).line = s.line ∧
    (s.vacate i).cip = s.cip ∧
    (s.vacate i).lamp = s.lamp ∧
    (s.vacate i).pins = s.pins ∧
    (s.vacate i).owed = s.owed ∧
    (s.vacate i).ties = s.ties ∧
    (s.vacate i).pending = s.pending ∧
    (s.vacate i).count = s.count := by
  simp [State.vacate]

@[simp] theorem State.vacate_locker? (s : State) (i j : Nat) :
    (s.vacate i).locker? j = if j = i then (s.locker? j).map Locker.toVacant else s.locker? j := by
  simp [State.vacate]

/-- R7: a record that is there enters RETIRED and its notice is queued. -/
theorem State.retire_some {s : State} {i : Nat} {r : Locker} (h : s.locker? i = some r) (why : RetireReason) :
    s.retire i why = (s.modLocker i fun q => q.toRetired why).notify i .retired (.retire why) r.orderNumber := by
  simp [State.retire, h]

theorem State.retire_none {s : State} {i : Nat} (h : s.locker? i = none) (why : RetireReason) : s.retire i why = s := by
  simp [State.retire, h]

/-- What `State.retire` leaves unchanged. -/
@[simp] theorem State.retire_frame (s : State) (i : Nat) (why : RetireReason) :
    (s.retire i why).straps = s.straps ∧
    (s.retire i why).time = s.time ∧
    (s.retire i why).scanAt = s.scanAt ∧
    (s.retire i why).latch = s.latch ∧
    (s.retire i why).keypad = s.keypad ∧
    (s.retire i why).book = s.book ∧
    (s.retire i why).share = s.share ∧
    (s.retire i why).grant = s.grant ∧
    (s.retire i why).cip = s.cip ∧
    (s.retire i why).lamp = s.lamp ∧
    (s.retire i why).pins = s.pins ∧
    (s.retire i why).owed = s.owed ∧
    (s.retire i why).ties = s.ties ∧
    (s.retire i why).pending = s.pending ∧
    (s.retire i why).count = s.count := by
  cases h : s.locker? i with
  | none => simp [State.retire, h]
  | some r => simp [State.retire, h]

@[simp] theorem State.retire_locker? (s : State) (i j : Nat) (why : RetireReason) :
    (s.retire i why).locker? j = if j = i then (s.locker? j).map (·.toRetired why) else s.locker? j := by
  cases h : s.locker? i with
  | none => by_cases hj : j = i <;> simp [State.retire, h, hj]
  | some r => by_cases hj : j = i <;> simp [State.retire, h, hj]

/-- R8: a fault strikes a record that is there: it changes nothing where the reason stands already. -/
theorem State.strike_some {s : State} {i : Nat} {r : Locker} (h : s.locker? i = some r) (why : FaultReason) :
    s.strike i why =
      if r.state = .fault ∧ r.faultReason = some why then s
      else (s.modLocker i fun q => q.toFault why).notify i .fault (.fault why) r.orderNumber := by
  simp [State.strike, h]

theorem State.strike_none {s : State} {i : Nat} (h : s.locker? i = none) (why : FaultReason) : s.strike i why = s := by
  simp [State.strike, h]

/-- What `State.strike` leaves unchanged. -/
@[simp] theorem State.strike_frame (s : State) (i : Nat) (why : FaultReason) :
    (s.strike i why).straps = s.straps ∧
    (s.strike i why).time = s.time ∧
    (s.strike i why).scanAt = s.scanAt ∧
    (s.strike i why).latch = s.latch ∧
    (s.strike i why).keypad = s.keypad ∧
    (s.strike i why).book = s.book ∧
    (s.strike i why).share = s.share ∧
    (s.strike i why).grant = s.grant ∧
    (s.strike i why).cip = s.cip ∧
    (s.strike i why).lamp = s.lamp ∧
    (s.strike i why).pins = s.pins ∧
    (s.strike i why).owed = s.owed ∧
    (s.strike i why).ties = s.ties ∧
    (s.strike i why).pending = s.pending ∧
    (s.strike i why).count = s.count := by
  cases h : s.locker? i with
  | none => simp [State.strike, h]
  | some r => rw [State.strike_some h]; split <;> simp

/-- R8: a record struck again with the reason it has keeps its fields. -/
theorem Locker.toFault_same {r : Locker} {why : FaultReason} (h : r.state = .fault ∧ r.faultReason = some why) :
    r.toFault why = r := by
  cases r; simp_all [Locker.toFault]

@[simp] theorem State.strike_locker? (s : State) (i j : Nat) (why : FaultReason) :
    (s.strike i why).locker? j = if j = i then (s.locker? j).map (·.toFault why) else s.locker? j := by
  cases h : s.locker? i with
  | none => by_cases hj : j = i <;> simp [State.strike, h, hj]
  | some r =>
    rw [State.strike_some h]
    by_cases hj : j = i
    · subst hj
      split
      next hs => simp [h, Locker.toFault_same hs]
      next => simp [h]
    · split <;> simp [hj]

/-- R21: the hold checks retire the record with one reason, or do nothing. -/
theorem State.holdChecks_cases (s : State) (i : Nat) :
    s.holdChecks i = s ∨ s.holdChecks i = s.retire i .cold ∨ s.holdChecks i = s.retire i .expired := by
  unfold State.holdChecks
  split
  · exact .inl rfl
  · split
    · split
      · exact .inr (.inl rfl)
      · split
        · exact .inr (.inr rfl)
        · exact .inl rfl
    · exact .inl rfl

/-- What `State.holdChecks` leaves unchanged. -/
@[simp] theorem State.holdChecks_frame (s : State) (i : Nat) :
    (s.holdChecks i).straps = s.straps ∧
    (s.holdChecks i).time = s.time ∧
    (s.holdChecks i).scanAt = s.scanAt ∧
    (s.holdChecks i).latch = s.latch ∧
    (s.holdChecks i).keypad = s.keypad ∧
    (s.holdChecks i).book = s.book ∧
    (s.holdChecks i).share = s.share ∧
    (s.holdChecks i).grant = s.grant ∧
    (s.holdChecks i).cip = s.cip ∧
    (s.holdChecks i).lamp = s.lamp ∧
    (s.holdChecks i).pins = s.pins ∧
    (s.holdChecks i).owed = s.owed ∧
    (s.holdChecks i).ties = s.ties ∧
    (s.holdChecks i).pending = s.pending ∧
    (s.holdChecks i).count = s.count := by
  rcases State.holdChecks_cases s i with h | h | h <;> simp [h]

/-! ### Latch Driver (R163 to R165) -/

/-- R165: the head is taken for a pulse, or nothing changes. -/
theorem State.takeLatch_cases (s : State) :
    (s.takeLatch = s ∧ (s.latch.pulse ≠ none ∨ s.latch.queue = [] ∨ s.time.supplyLow = true)) ∨
    ∃ i rest, s.latch.pulse = none ∧ s.latch.queue = i :: rest ∧ s.time.supplyLow = false ∧
      s.takeLatch = (s.withLatch ⟨rest, some ⟨i, 0⟩⟩).modLocker i fun r =>
        if r.cycle = .queued then { r with cycle := .pulsing } else r := by
  unfold State.takeLatch
  split
  next i rest hp hq =>
    split
    next hs => exact .inl ⟨rfl, .inr (.inr hs)⟩
    next hs => exact .inr ⟨i, rest, hp, hq, by simpa using hs, rfl⟩
  next hn =>
    refine .inl ⟨rfl, ?_⟩
    cases hp : s.latch.pulse with
    | some p => exact .inl (by simp)
    | none =>
      cases hq : s.latch.queue with
      | nil => exact .inr (.inl rfl)
      | cons i rest => exact (hn i rest hp hq).elim

/-- What `State.takeLatch` leaves unchanged. -/
@[simp] theorem State.takeLatch_frame (s : State)  :
    (s.takeLatch).straps = s.straps ∧
    (s.takeLatch).time = s.time ∧
    (s.takeLatch).scanAt = s.scanAt ∧
    (s.takeLatch).keypad = s.keypad ∧
    (s.takeLatch).book = s.book ∧
    (s.takeLatch).share = s.share ∧
    (s.takeLatch).grant = s.grant ∧
    (s.takeLatch).line = s.line ∧
    (s.takeLatch).cip = s.cip ∧
    (s.takeLatch).lamp = s.lamp ∧
    (s.takeLatch).pins = s.pins ∧
    (s.takeLatch).owed = s.owed ∧
    (s.takeLatch).ties = s.ties ∧
    (s.takeLatch).pending = s.pending ∧
    (s.takeLatch).count = s.count := by
  rcases State.takeLatch_cases s with ⟨h, -⟩ | ⟨i, rest, -, -, -, h⟩ <;> simp [h]

@[simp] theorem State.takeLatch_indices (s : State) : s.takeLatch.indices = s.indices := by simp [State.indices]

/-- R11, R165: a record keeps all but its door cycle, which moves from QUEUED to PULSING for the index taken. -/
theorem State.takeLatch_locker? (s : State) (j : Nat) :
    s.takeLatch.locker? j = s.locker? j ∨
    ∃ r, s.locker? j = some r ∧ r.cycle = .queued ∧ s.takeLatch.latch.pulse = some ⟨j, 0⟩ ∧
      s.takeLatch.locker? j = some { r with cycle := .pulsing } := by
  rcases State.takeLatch_cases s with ⟨h, -⟩ | ⟨i, rest, -, -, -, h⟩
  · left; rw [h]
  · by_cases hj : j = i
    · subst hj
      cases hr : s.locker? j with
      | none => left; simp [h, hr]
      | some r =>
        by_cases hq : r.cycle = .queued
        · right; exact ⟨r, rfl, hq, by simp [h], by simp [h, hr, hq]⟩
        · left; simp [h, hr, hq]
    · left; simp [h, hj]

/-- R163: the request joins the tail or merges, and R165 then acts. -/
theorem State.requestLatch_eq (s : State) (i : Nat) :
    s.requestLatch i =
      (if i ∈ s.latch.queue then s else s.withLatch { s.latch with queue := s.latch.queue ++ [i] }).takeLatch := by
  simp [State.requestLatch]

/-- What `State.requestLatch` leaves unchanged. -/
@[simp] theorem State.requestLatch_frame (s : State) (i : Nat) :
    (s.requestLatch i).straps = s.straps ∧
    (s.requestLatch i).time = s.time ∧
    (s.requestLatch i).scanAt = s.scanAt ∧
    (s.requestLatch i).keypad = s.keypad ∧
    (s.requestLatch i).book = s.book ∧
    (s.requestLatch i).share = s.share ∧
    (s.requestLatch i).grant = s.grant ∧
    (s.requestLatch i).line = s.line ∧
    (s.requestLatch i).cip = s.cip ∧
    (s.requestLatch i).lamp = s.lamp ∧
    (s.requestLatch i).pins = s.pins ∧
    (s.requestLatch i).owed = s.owed ∧
    (s.requestLatch i).ties = s.ties ∧
    (s.requestLatch i).pending = s.pending ∧
    (s.requestLatch i).count = s.count := by
  rw [State.requestLatch_eq]; split <;> simp

@[simp] theorem State.requestLatch_indices (s : State) (i : Nat) : (s.requestLatch i).indices = s.indices := by
  simp [State.indices]

/-- What `State.withdrawLatch` leaves unchanged. -/
@[simp] theorem State.withdrawLatch_frame (s : State) (i : Nat) :
    (s.withdrawLatch i).straps = s.straps ∧
    (s.withdrawLatch i).time = s.time ∧
    (s.withdrawLatch i).lockers = s.lockers ∧
    (s.withdrawLatch i).scanAt = s.scanAt ∧
    (s.withdrawLatch i).keypad = s.keypad ∧
    (s.withdrawLatch i).book = s.book ∧
    (s.withdrawLatch i).share = s.share ∧
    (s.withdrawLatch i).grant = s.grant ∧
    (s.withdrawLatch i).line = s.line ∧
    (s.withdrawLatch i).cip = s.cip ∧
    (s.withdrawLatch i).lamp = s.lamp ∧
    (s.withdrawLatch i).pins = s.pins ∧
    (s.withdrawLatch i).owed = s.owed ∧
    (s.withdrawLatch i).ties = s.ties ∧
    (s.withdrawLatch i).pending = s.pending ∧
    ∀ j, (s.withdrawLatch i).locker? j = s.locker? j ∧
    (s.withdrawLatch i).indices = s.indices ∧
    (s.withdrawLatch i).count = s.count := by
  simp [State.withdrawLatch]

@[simp] theorem State.withdrawLatch_latch (s : State) (i : Nat) :
    (s.withdrawLatch i).latch = { s.latch with queue := s.latch.queue.filter (· != i) } := rfl

/-- R10: a door cycle begins at OPEN or with a release request. -/
theorem State.beginCycle_some {s : State} {i : Nat} {r : Locker} (h : s.locker? i = some r) :
    s.beginCycle i =
      if r.doorOpen then s.modLocker i fun q => { q with attempts := 0, cycle := .opened }
      else (s.modLocker i fun q => { q with attempts := 0, cycle := .queued }).requestLatch i := by
  simp [State.beginCycle, h]

/-- What `State.beginCycle` leaves unchanged. -/
@[simp] theorem State.beginCycle_frame (s : State) (i : Nat) :
    (s.beginCycle i).straps = s.straps ∧
    (s.beginCycle i).time = s.time ∧
    (s.beginCycle i).scanAt = s.scanAt ∧
    (s.beginCycle i).keypad = s.keypad ∧
    (s.beginCycle i).book = s.book ∧
    (s.beginCycle i).share = s.share ∧
    (s.beginCycle i).grant = s.grant ∧
    (s.beginCycle i).line = s.line ∧
    (s.beginCycle i).cip = s.cip ∧
    (s.beginCycle i).lamp = s.lamp ∧
    (s.beginCycle i).pins = s.pins ∧
    (s.beginCycle i).owed = s.owed ∧
    (s.beginCycle i).ties = s.ties ∧
    (s.beginCycle i).pending = s.pending ∧
    (s.beginCycle i).count = s.count := by
  cases h : s.locker? i with
  | none => simp [State.beginCycle, h]
  | some r => rw [State.beginCycle_some h]; split <;> simp

/-! ### Isolation (R82, R110) -/

/-- R82, R110: the bank is ISOLATED after, and its book is empty where it was not ISOLATED before. -/
theorem State.isolate_cases (s : State) :
    (s.share.state = .isolated ∧ s.isolate = s) ∨
    (s.share.state ≠ .isolated ∧
      s.isolate = (s.withShare { s.share with state := .isolated, joinCount := 0 }).withBook []) := by
  unfold State.isolate
  split
  next h => exact .inl ⟨h, rfl⟩
  next h => exact .inr ⟨h, rfl⟩

/-- What `State.isolate` leaves unchanged. -/
@[simp] theorem State.isolate_frame (s : State)  :
    (s.isolate).straps = s.straps ∧
    (s.isolate).time = s.time ∧
    (s.isolate).lockers = s.lockers ∧
    (s.isolate).scanAt = s.scanAt ∧
    (s.isolate).latch = s.latch ∧
    (s.isolate).keypad = s.keypad ∧
    (s.isolate).grant = s.grant ∧
    (s.isolate).line = s.line ∧
    (s.isolate).cip = s.cip ∧
    (s.isolate).lamp = s.lamp ∧
    (s.isolate).pins = s.pins ∧
    (s.isolate).owed = s.owed ∧
    (s.isolate).ties = s.ties ∧
    (s.isolate).pending = s.pending ∧
    ∀ j, s.isolate.locker? j = s.locker? j ∧
    s.isolate.indices = s.indices ∧
    s.isolate.count = s.count := by
  rcases State.isolate_cases s with ⟨-, h⟩ | ⟨-, h⟩ <;> simp [h]

@[simp] theorem State.isolate_share (s : State) :
    s.isolate.share.state = .isolated ∧ s.isolate.share.allowance = s.share.allowance ∧
    s.isolate.share.peers = s.share.peers ∧ s.isolate.share.seq = s.share.seq ∧
    s.isolate.share.unsentRun = s.share.unsentRun ∧ s.isolate.share.sentMark = s.share.sentMark ∧
    s.isolate.share.cadence = s.share.cadence := by
  rcases State.isolate_cases s with ⟨hs, h⟩ | ⟨-, h⟩ <;> simp [h]
  exact hs

/-! ### Warm restart (R28, R158) -/

/-- R28: one record at a warm restart changes only itself and the notice list. -/

@[simp] theorem State.revert_frame (s : State) (i : Nat) :
    (s.revert i).straps = s.straps ∧
    (s.revert i).time = s.time ∧
    (s.revert i).scanAt = s.scanAt ∧
    (s.revert i).latch = s.latch ∧
    (s.revert i).keypad = s.keypad ∧
    (s.revert i).book = s.book ∧
    (s.revert i).share = s.share ∧
    (s.revert i).grant = s.grant ∧
    (s.revert i).cip = s.cip ∧
    (s.revert i).lamp = s.lamp ∧
    (s.revert i).pins = s.pins ∧
    (s.revert i).owed = s.owed ∧
    (s.revert i).ties = s.ties ∧
    (s.revert i).pending = s.pending ∧
    (s.revert i).count = s.count := by
  unfold State.revert
  split
  · simp
  · dsimp only
    repeat' split
    all_goals simp

@[simp] theorem State.revert_indices (s : State) (i : Nat) : (s.revert i).indices = s.indices := by simp [State.indices]

/-- What `State.recomputeAll` leaves unchanged. -/
@[simp] theorem State.recomputeAll_frame (s : State)  :
    (s.recomputeAll).straps = s.straps ∧
    (s.recomputeAll).time = s.time ∧
    (s.recomputeAll).scanAt = s.scanAt ∧
    (s.recomputeAll).latch = s.latch ∧
    (s.recomputeAll).keypad = s.keypad ∧
    (s.recomputeAll).book = s.book ∧
    (s.recomputeAll).share = s.share ∧
    (s.recomputeAll).line = s.line ∧
    (s.recomputeAll).cip = s.cip ∧
    (s.recomputeAll).lamp = s.lamp ∧
    (s.recomputeAll).pins = s.pins ∧
    (s.recomputeAll).owed = s.owed ∧
    (s.recomputeAll).ties = s.ties ∧
    (s.recomputeAll).pending = s.pending ∧
    (s.recomputeAll).count = s.count := by
  unfold State.recomputeAll
  apply State.forEach_keeps (P := fun t => t.straps = s.straps ∧ t.time = s.time ∧ t.scanAt = s.scanAt ∧ t.latch = s.latch ∧ t.keypad = s.keypad ∧ t.book = s.book ∧ t.share = s.share ∧ t.line = s.line ∧ t.cip = s.cip ∧ t.lamp = s.lamp ∧ t.pins = s.pins ∧ t.owed = s.owed ∧ t.ties = s.ties ∧ t.pending = s.pending ∧ t.count = s.count)
  · simp
  · intro t i _ h; simpa using h

@[simp] theorem State.recomputeAll_indices (s : State) : s.recomputeAll.indices = s.indices := by simp [State.indices]

/-- R49: every record is recomputed. -/
theorem State.recomputeAll_lockers (s : State) :
    s.recomputeAll.lockers = s.lockers.map (·.recomputed s.time.classes s.time.clock s.straps.commission) := by
  have key : ∀ n, n ≤ s.count → ∀ t : State,
      t = ((List.range n).map (· + 1)).foldl State.recompute s →
      t.time = s.time ∧ t.straps = s.straps ∧ t.count = s.count ∧
      ∀ k, t.lockers[k]? = if k < n then (s.lockers[k]?).map (·.recomputed s.time.classes s.time.clock s.straps.commission)
        else s.lockers[k]? := by
    intro n
    induction n with
    | zero => intro _ t ht; subst ht; simp
    | succ n ih =>
      intro hn t ht
      rw [List.range_succ, List.map_append, List.foldl_append] at ht
      obtain ⟨h1, h2, h3, h4⟩ := ih (by omega) _ rfl
      subst ht
      refine ⟨by simp [h1], by simp [h2], by simp [h3], ?_⟩
      intro k
      have hl := State.recompute_locker? (((List.range n).map (· + 1)).foldl State.recompute s) (n + 1) (k + 1)
      simp only [State.locker?, Nat.add_one_ne_zero, if_false, Nat.add_sub_cancel] at hl
      simp only [List.map_cons, List.map_nil, List.foldl_cons, List.foldl_nil]
      rw [hl, h4 k, h1, h2]
      by_cases hk : k = n
      · subst hk; simp
      · by_cases hkn : k < n
        · have : k < n + 1 := by omega
          simp [hk, hkn, this]
        · have : ¬ k < n + 1 := by omega
          simp [hk, hkn, this]
  obtain ⟨-, -, h3, h4⟩ := key s.count (le_refl _) _ rfl
  apply List.ext_getElem?
  intro k
  have := h4 k
  change (s.recomputeAll.lockers)[k]? = _ at this
  rw [this]
  by_cases hk : k < s.count
  · simp [hk]
  · simp only [hk, if_false]
    have : s.lockers[k]? = none := by simp only [State.count] at hk; simp; omega
    simp [this]

@[simp] theorem State.recomputeAll_locker? (s : State) (j : Nat) :
    s.recomputeAll.locker? j = (s.locker? j).map (·.recomputed s.time.classes s.time.clock s.straps.commission) := by
  simp only [State.locker?, State.recomputeAll_lockers]
  split <;> simp


/-- R57, R60, R61, R66: the list can only lose entries; the rest of the block stands. -/
theorem State.recomputeAll_grant (s : State) :
    s.recomputeAll.grant.list.Sublist s.grant.list ∧ s.recomputeAll.grant.mask = s.grant.mask ∧
    s.recomputeAll.grant.pointers = s.grant.pointers ∧ s.recomputeAll.grant.cadence = s.grant.cadence := by
  unfold State.recomputeAll
  apply State.forEach_keeps (P := fun t => t.grant.list.Sublist s.grant.list ∧ t.grant.mask = s.grant.mask ∧
    t.grant.pointers = s.grant.pointers ∧ t.grant.cadence = s.grant.cadence)
  · simp
  · intro t i _ h
    rcases State.recompute_grant t i with hg | ⟨hg, -⟩
    · rw [hg]; exact h
    · rw [hg]; exact ⟨List.filter_sublist.trans h.1, h.2⟩

/-- R158, R192: what every warm restart keeps and sets. -/
@[simp] theorem State.warmRestart_fields (s : State) :
    s.warmRestart.straps = s.straps ∧ s.warmRestart.time = s.time ∧ s.warmRestart.scanAt = s.scanAt ∧
    s.warmRestart.pins = s.pins ∧ s.warmRestart.owed = s.owed ∧ s.warmRestart.ties = s.ties ∧
    s.warmRestart.pending = s.pending ∧ s.warmRestart.count = s.count ∧ s.warmRestart.latch = Latch.init ∧
    s.warmRestart.keypad = Keypad.restarted (!s.pins.keys.isEmpty) ∧ s.warmRestart.book = [] ∧
    s.warmRestart.share = s.share.restarted ∧ s.warmRestart.cip = Cip.init ∧
    s.warmRestart.lamp = { s.lamp with test := none } := by
  have h : ∀ t : State, t = s.restartBlocks.forEach State.revert →
      t.straps = s.straps ∧ t.time = s.time ∧ t.scanAt = s.scanAt ∧ t.pins = s.pins ∧ t.owed = s.owed ∧
      t.ties = s.ties ∧ t.pending = s.pending ∧ t.count = s.count ∧ t.latch = Latch.init ∧
      t.keypad = Keypad.restarted (!s.pins.keys.isEmpty) ∧ t.book = [] ∧ t.share = s.share.restarted ∧
      t.cip = Cip.init ∧ t.lamp = { s.lamp with test := none } := by
    intro t ht
    subst ht
    apply State.forEach_keeps (P := fun t : State => t.straps = s.straps ∧ t.time = s.time ∧ t.scanAt = s.scanAt ∧
      t.pins = s.pins ∧ t.owed = s.owed ∧ t.ties = s.ties ∧ t.pending = s.pending ∧ t.count = s.count ∧
      t.latch = Latch.init ∧ t.keypad = Keypad.restarted (!s.pins.keys.isEmpty) ∧ t.book = [] ∧
      t.share = s.share.restarted ∧ t.cip = Cip.init ∧ t.lamp = { s.lamp with test := none })
    · exact ⟨rfl, rfl, rfl, rfl, rfl, rfl, rfl, rfl, rfl, rfl, rfl, rfl, rfl, rfl⟩
    · intro t i _ ht; simpa using ht
  simpa [State.warmRestart] using h _ rfl

/-- R57, R60, R61: the grant list is empty, and M and the pointers are 0. -/
@[simp] theorem State.warmRestart_grant (s : State) : s.warmRestart.grant = s.grant.restarted := by
  have h : (s.restartBlocks.forEach State.revert).grant = s.grant.restarted := by
    apply State.forEach_keeps (P := fun t : State => t.grant = s.grant.restarted)
    · rfl
    · intro t i _ ht; simpa using ht
  unfold State.warmRestart
  obtain ⟨h1, h2, h3, h4⟩ := State.recomputeAll_grant (s.restartBlocks.forEach State.revert)
  rw [h] at h1 h2 h3 h4
  have hl : (s.restartBlocks.forEach State.revert).recomputeAll.grant.list = [] := by
    simpa [Grant.restarted] using h1
  have : ∀ g : Grant, g.list = [] → g.mask = 0 → g.pointers = List.replicate 7 0 → g.cadence = s.grant.cadence →
      g = s.grant.restarted := by
    rintro ⟨m, l, p, c⟩ hl hm hp hc
    simp only at hl hm hp hc
    subst hl hm hp hc; rfl
  exact this _ hl h2 h3 h4

/-! ### Replies (R130, R139, R158) -/

/-- R158: a report makes the warm restart or nothing. -/
theorem State.reportReply_cases (s : State) (f : ReplyFrame) :
    s.reportReply f = s ∨ (s.cip.proc = .restarting ∧ f.endsRestart = true ∧ s.reportReply f = s.warmRestart) := by
  unfold State.reportReply
  split
  next h => exact .inr ⟨h.1, h.2, rfl⟩
  next => exact .inl rfl

/-- R130, R143: a REPLY joins the list, or is discarded and reported. -/
theorem State.handReply_cases (s : State) (f : ReplyFrame) :
    (s.line.mute = false ∧ s.line.replies.length < Config.replyCapacity ∧
      s.handReply f = s.withLine { s.line with replies := s.line.replies ++ [⟨f, 0⟩] }) ∨
    ((s.line.mute = true ∨ Config.replyCapacity ≤ s.line.replies.length) ∧ s.handReply f = s.reportReply f) := by
  unfold State.handReply
  split
  next h => exact .inr ⟨h, rfl⟩
  next h =>
    simp only [not_or, Bool.not_eq_true, Nat.not_le] at h
    exact .inl ⟨h.1, h.2, rfl⟩

/-- What holds of a state and of its warm restart holds after reports. -/
theorem State.reportAll_keeps {P : State → Prop} {s : State} (fs : List ReplyFrame) (h : P s)
    (hw : ∀ t, P t → P t.warmRestart) : P (fs.foldl State.reportReply s) := by
  induction fs generalizing s with
  | nil => exact h
  | cons f fs ih =>
    apply ih
    rcases State.reportReply_cases s f with hr | ⟨-, -, hr⟩
    · rw [hr]; exact h
    · rw [hr]; exact hw s h

/-- R129: where the processor is not RESTARTING, a fall out of step is the fall of the line and the isolation. -/
theorem State.fallOutOfStep_eq {s : State} (h : s.cip.proc ≠ .restarting) :
    s.fallOutOfStep = (s.withLine s.line.fallen).isolate := by
  have : ∀ (fs : List ReplyFrame) (t : State), t.cip.proc ≠ .restarting → fs.foldl State.reportReply t = t := by
    intro fs
    induction fs with
    | nil => intro t _; rfl
    | cons f fs ih =>
      intro t ht
      rcases State.reportReply_cases t f with hr | ⟨hp, -, -⟩
      · rw [List.foldl_cons, hr]; exact ih t ht
      · exact (ht hp).elim
  exact this _ _ (by simpa using h)

/-! ### Power conditions (R69, R93) -/

@[simp] theorem State.cutPower_fields (s : State) :
    s.cutPower = { s with share := { s.share with allowance := 0 }, grant := { s.grant with list := [] } } := rfl

end Sys2Proof.Machine
end

