-- ==== Sys2Proof/Laws/Line.lean ====
section
/-! SUPPORT. What the operations of the Line Interface and of the clockwork can do, said once, and what a recomputation
makes of a record that has just been recomputed. -/

namespace Sys2Proof.Machine

/-! ### Records -/

/-- R6, R15: what an UNBLOCK leaves unchanged in a record, and the attempts it keeps. -/
@[simp] theorem Locker.unblocked_fields (r : Locker) :
    r.unblocked.swept = r.swept ∧ r.unblocked.state = .vacant ∧ r.unblocked.order = none ∧
    r.unblocked.cycle = r.cycle ∧ r.unblocked.attempts = (if r.cycle = .none then 0 else r.attempts) ∧
    r.unblocked.openWait = r.openWait ∧ r.unblocked.ajar = r.ajar ∧ r.unblocked.ajarGiven = r.ajarGiven ∧
    r.unblocked.temp = r.temp ∧ r.unblocked.faultRun = r.faultRun ∧ r.unblocked.doorOpen = r.doorOpen ∧
    r.unblocked.trayPresent = r.trayPresent := by
  simp [Locker.unblocked, Locker.toVacant]

/-- R52: a judgement of the phase does not read the level, and leaves it. -/
theorem Locker.judgePhase_level (r : Locker) (classes : List (Option ClassEntry)) (n : Nat) :
    ({ r with level := n } : Locker).judgePhase classes = { r.judgePhase classes with level := n } := by
  have hf : ({ r with level := n } : Locker).figures classes = r.figures classes := rfl
  unfold Locker.judgePhase
  rw [hf]
  dsimp only
  repeat' split
  all_goals rfl

/-- R52: a judgement made again with the phase before it gives the same. -/
theorem Locker.judgePhase_again (r : Locker) (classes : List (Option ClassEntry)) :
    ({ r.judgePhase classes with phase := r.phase } : Locker).judgePhase classes = r.judgePhase classes := by
  by_cases hq : r.judgePhase classes = r
  · rw [hq]; exact hq
  · obtain ⟨hh, c, hf⟩ : r.state.heats = true ∧ ∃ c, r.figures classes = some c := by
      unfold Locker.judgePhase at hq
      split at hq
      next hh =>
        split at hq
        · exact absurd rfl hq
        next c hf => exact ⟨hh, c, hf⟩
      · exact absurd rfl hq
    cases hp : r.phase with
    | raise =>
      by_cases ht : c.target ≤ r.temp
      · have he : r.judgePhase classes = r.enterKeep := by simp [Locker.judgePhase, hh, hf, hp, ht]
        have hf' : ({ r.enterKeep with phase := .raise } : Locker).figures classes = some c := hf
        rw [he, Locker.judgePhase, hf']
        simp [Locker.enterKeep, hh, ht]
      · exact absurd (by simp [Locker.judgePhase, hh, hf, hp, ht]) hq
    | keep =>
      by_cases ht : r.temp + 2 < c.target
      · have he : r.judgePhase classes = { r with phase := .raise } := by simp [Locker.judgePhase, hh, hf, hp, ht]
        have hf' : ({ r with phase := .keep } : Locker).figures classes = some c := hf
        rw [he, Locker.judgePhase, hf']
        simp [hh, ht]
      · exact absurd (by simp [Locker.judgePhase, hh, hf, hp, ht]) hq

/-- R49, R52: a recomputed record is what a recomputation makes of it with the phase it had before. -/
theorem Locker.recomputed_again (r : Locker) (classes : List (Option ClassEntry)) (clock : Option Nat)
    (commission : Bool) :
    ({ r.recomputed classes clock commission with phase := r.phase } : Locker).recomputed classes clock commission =
      r.recomputed classes clock commission := by
  have hj : ({ r.recomputed classes clock commission with phase := r.phase } : Locker).judgePhase classes =
      r.recomputed classes clock commission := by
    have := Locker.judgePhase_level ({ r.judgePhase classes with phase := r.phase } : Locker) classes
      ((r.judgePhase classes).levelNow classes clock commission)
    rw [Locker.judgePhase_again] at this
    exact this
  rw [Locker.recomputed, hj]
  rfl

/-! ### Rows that are due -/

/-- A timer that has reached its time. -/
@[simp] theorem reached_iff (t : Option Nat) (limit : Nat) :
    reached t limit = true ↔ ∃ n, t = some n ∧ limit ≤ n := by
  cases t <;> simp [reached]

/-- A strand of `dueIf` is its row alone. -/
@[simp] theorem eq_dueIf_iff (b : Bool) (c : Instr) (x : List Instr) :
    (x = dueIf b c ∧ x ≠ []) ↔ b = true ∧ x = [c] := by
  cases b <;> simp [dueIf]
  rintro rfl; simp

/-- R1: the records with their indices. -/
theorem State.mem_zipIdx_lockers (s : State) (r : Locker) (n : Nat) :
    (r, n) ∈ s.lockers.zipIdx ↔ s.locker? (n + 1) = some r := by
  simp [State.locker?, List.mem_zipIdx_iff_getElem?]

/-- The strands that are due, by where they come from. -/
theorem State.mem_due (s : State) (x : List Instr) :
    x ∈ s.due ↔ x ≠ [] ∧ (x = s.takeDue ∨ x = dueIf s.attemptDue .attemptStart ∨ x = dueIf s.line.inStepDue .inStep ∨
      x ∈ s.time.powerDue ∨ (∃ r n, s.locker? (n + 1) = some r ∧ x ∈ lockerDue (n + 1) r) ∨ x = s.latch.due ∨
      x ∈ s.keypad.due s.pins.keys ∨
      (∃ e ∈ s.book, x = dueIf (decide (Config.windowTime ≤ e.window)) (.windowEnd e.order)) ∨ x = s.cip.proc.due ∨
      x = dueIf (s.lamp.test == some 0) .lampTestEnd) := by
  simp only [State.due, List.mem_filter, List.mem_append, List.mem_cons, List.mem_flatMap, List.mem_map, Prod.exists,
    State.mem_zipIdx_lockers, List.not_mem_nil, or_false, or_assoc, Bool.not_eq_true', List.isEmpty_eq_false_iff,
    eq_comm (b := x), and_comm (b := x ≠ []), ne_eq]

/-- The strands that the cadences bring. -/
theorem State.mem_beats (s : State) (x : List Instr) :
    x ∈ s.beats ↔ x = s.time.beat ∨ x = dueIf (s.share.cadence == 0) .shareTick ∨
      x = dueIf (s.grant.cadence == 0) .grantRound ∨ x = dueIf (s.lamp.cadence == 0) .lampFrame ∨
      ∃ r n, s.locker? (n + 1) = some r ∧ x = dueIf (s.scanAt == scanOffset s.count (n + 1))
        (scanStep (n + 1) r (s.pins.lockers.getD n ⟨r.doorOpen, r.trayPresent, 0⟩)) := by
  simp only [State.beats, List.mem_append, List.mem_cons, List.mem_map, Prod.exists, State.mem_zipIdx_lockers,
    List.not_mem_nil, or_false, or_assoc, eq_comm (b := x)]

/-! ### The line monitor, the transmitter and the falls -/

/-- R134: an owed LINE_ACTIVE holds an attempt back. -/
theorem State.activeOwed_iff (s : State) : s.activeOwed = true ↔ ∃ x ∈ s.owed, Instr.lineActive ∈ x := by
  simp [State.activeOwed]

/-- R134: when an attempt is due. -/
theorem State.attemptDue_iff (s : State) :
    s.attemptDue = true ↔ s.maySend = true ∧ s.activeOwed = false ∧
      ∃ k gap out, s.line.nextInLine = some (k, gap, out) ∧ s.threshold gap ≤ s.line.accessCount := by
  unfold State.attemptDue
  cases h : s.line.nextInLine with
  | none => simp
  | some x => obtain ⟨k, gap, out⟩ := x; simp [and_assoc]

/-- R135: the attempt on the wire has been read back whole. -/
theorem Line.sentWhole_eq_some (l : Line) (k : ListKind) :
    l.sentWhole = some k ↔ ∃ a, l.wire = some a ∧ a.list = k ∧ a.symbols = [] ∧ a.breaking = false := by
  unfold Line.sentWhole
  cases h : l.wire <;> simp; tauto

/-- R135: a frame that is sent changes its own list, the wire and the extra wait alone. -/
theorem Line.sent_frame (l : Line) (k : ListKind) :
    ({ l.sent k with
      wire := l.wire, extraWait := l.extraWait, replies := l.replies, orders := l.orders, orderNext := l.orderNext,
      demand := l.demand, demandNext := l.demandNext, notices := l.notices } : Line) = l := by
  cases k <;> rfl

/-- R135, R138: what a frame that is sent leaves of the wire and of the lists. -/
@[simp] theorem Line.sent_fields (l : Line) (k : ListKind) :
    (l.sent k).wire = none ∧ (l.sent k).extraWait = 0 ∧
    (l.sent k).replies = (if k = .reply then l.replies.drop 1 else l.replies) ∧
    (l.sent k).orders = (if k = .order then l.ordersAfterHead else l.orders) ∧
    (l.sent k).orderNext = (if k = .order then none else l.orderNext) ∧
    (l.sent k).demand = (if k = .demand then l.demandAfter else l.demand) ∧
    (l.sent k).demandNext = (if k = .demand then none else l.demandNext) ∧
    (l.sent k).notices = (if k = .notice then l.notices.drop 1 else l.notices) := by
  cases k <;> simp [Line.sent, Line.ordersAfterHead, Line.demandAfter]

/-- R129, R141: what a fall out of step leaves of the Line Interface: an attempt cut off, or one that is complete. -/
theorem Line.fallen_cases (l : Line) :
    (l.sentWhole = none ∧ l.fallen = { l with
      inStep := false, inStepCount := 0, rx := .hunting, wire := none, replies := [], orders := [], orderNext := none,
      demand := l.demandKept, demandNext := none }) ∨
    ∃ k, l.sentWhole = some k ∧ l.fallen = { l with
      inStep := false, inStepCount := 0, rx := .hunting, wire := none, replies := [], orders := [], orderNext := none,
      demand := (if k = .demand then l.demandAfter else l.demandKept), demandNext := none, extraWait := 0,
      notices := (if k = .notice then l.notices.drop 1 else l.notices),
      demandSent := l.demandSent || k == ListKind.demand } := by
  unfold Line.fallen
  cases h : l.sentWhole with
  | none => exact .inl ⟨rfl, rfl⟩
  | some k => exact .inr ⟨k, rfl, by cases k <;> rfl⟩

/-- R127, R136: a collision leaves the lists, the receiver and the step state, and settles the monitor where the BREAK
does. -/
theorem Line.collided_eq (l : Line) (settles : Bool) :
    l.collided settles =
      { l with
        wire := none, backoff := nextBackoff l.backoff, extraWait := 2 * ((nextBackoff l.backoff).toNat % 16),
        active := if settles then false else l.active, accessCount := if settles then 0 else l.accessCount,
        quietRun := if settles then 0 else l.quietRun } := by
  cases settles <;> rfl

/-- R83, R84: a completed DEMAND sets the sent mark, and changes the share state of an ISOLATED bank that may send. -/
theorem State.demandCompleted_cases (s : State) :
    (s.share.state = .isolated ∧ s.line.inStep = true ∧ s.line.listenOnly = false ∧
      s.demandCompleted = s.withShare
        { s.share with sentMark := true, state := .joining, joinCount := 0, unsentRun := 0 }) ∨
    (¬ (s.share.state = .isolated ∧ s.line.inStep = true ∧ s.line.listenOnly = false) ∧
      s.demandCompleted = s.withShare { s.share with sentMark := true }) := by
  by_cases h : s.share.state = .isolated ∧ s.line.inStep = true ∧ s.line.listenOnly = false
  · exact .inl ⟨h.1, h.2.1, h.2.2, if_pos h⟩
  · exact .inr ⟨h, if_neg h⟩

/-- R127: the monitor changes its own counts alone. -/
@[simp] theorem Line.monitor_frame (l : Line) (sym : Sym) :
    (l.monitor sym).1.wire = l.wire ∧ (l.monitor sym).1.rx = l.rx ∧ (l.monitor sym).1.inStep = l.inStep ∧
    (l.monitor sym).1.inStepCount = l.inStepCount ∧ (l.monitor sym).1.lineFault = l.lineFault ∧
    (l.monitor sym).1.active = l.active := by
  unfold Line.monitor
  repeat' split
  all_goals simp_all

/-- R128: the step lock changes its count alone. -/
@[simp] theorem Line.stepLock_frame (l : Line) (sym : Sym) :
    (l.stepLock sym).wire = l.wire ∧ (l.stepLock sym).rx = l.rx ∧ (l.stepLock sym).inStep = l.inStep ∧
    (l.stepLock sym).active = l.active ∧ (l.stepLock sym).accessCount = l.accessCount := by
  unfold Line.stepLock
  repeat' split
  all_goals simp

/-- R123: the receiver changes itself alone, and a station out of step receives nothing. -/
theorem Line.receive_line (l : Line) (own : Nat) (sym : Sym) :
    (l.receive own sym).1 = if l.inStep then { l with rx := (rxStep l.rx sym l.wire.isSome).1 } else l := by
  unfold Line.receive; split <;> rfl

/-- R135, R136: what a symbol makes of the attempt on the wire, and the row it brings. -/
theorem Line.transmit_cases (l : Line) (sym : Sym) :
    (l.wire = none ∧ l.transmit sym = (l, [])) ∨
    ∃ a, l.wire = some a ∧
      ((a.breaking = true ∧
          l.transmit sym = ({ l with wire := some { a with settles := l.active && sym == .brk } }, [.collision])) ∨
       (a.breaking = false ∧ a.symbols = [] ∧ l.transmit sym = (l, [])) ∨
       ∃ sent rest, a.breaking = false ∧ a.symbols = sent :: rest ∧
        ((sym = sent ∧ l.transmit sym = ({ l with wire := some { a with symbols := rest } },
            if rest.isEmpty then [.transmissionComplete] else [])) ∨
         (sym ≠ sent ∧ l.transmit sym = ({ l with wire := some { a with breaking := true } }, [])))) := by
  unfold Line.transmit
  cases hw : l.wire with
  | none => exact .inl ⟨rfl, rfl⟩
  | some a =>
    refine .inr ⟨a, rfl, ?_⟩
    cases hb : a.breaking with
    | true => exact .inl ⟨rfl, by simp [hb]⟩
    | false =>
      cases hs : a.symbols with
      | nil => exact .inr (.inl ⟨rfl, rfl, by simp [hb, hs]⟩)
      | cons sent rest =>
        refine .inr (.inr ⟨sent, rest, rfl, rfl, ?_⟩)
        by_cases h : sym = sent
        · exact .inl ⟨h, by simp [hb, hs, h]⟩
        · exact .inr ⟨h, by simp [hb, hs, h]⟩

end Sys2Proof.Machine
end

