-- ==== Sys2Proof/WellFormed.lean ====
section
/-! DEFINITION. Which commands the outside can send: operands within the ranges the spec gives them. A
meaning does not assume its command well formed; an operand out of range reaches no record (R1) or is
judged by the rule that takes it. -/

namespace Sys2Proof

/-- A byte as the line carries it. -/
abbrev isByte (n : Nat) : Prop := n < 256
/-- A two-byte number as the line carries it (6.3). -/
abbrev isWord16 (n : Nat) : Prop := n < 65536
/-- A three-byte number as the line carries it (6.3). -/
abbrev isWord24 (n : Nat) : Prop := n < 16777216
/-- A source station that passes the source filter of R124. -/
abbrev isSource (n : Nat) : Prop := n ≤ 30
/-- A locker position of the largest bank (R1, R188). -/
abbrev isLocker (n : Nat) : Prop := 1 ≤ n ∧ n ≤ 32

/-- The operands lie in the ranges that R29 (raw code), R1 (index), R125 (frame fields as carried), R124
(source) and R173 (keys) give. -/
def Instr.wellFormed : Instr → Bool
  | .powerOnReset _ => true
  | .warmRestart => true
  | .firstSweepReading i _ _ raw => decide (isLocker i ∧ isByte raw)
  | .probeSample i raw => decide (isLocker i ∧ isByte raw)
  | .doorOpened i => decide (isLocker i)
  | .doorClosed i => decide (isLocker i)
  | .trayAppeared i => decide (isLocker i)
  | .trayRemoved i => decide (isLocker i)
  | .ajar i => decide (isLocker i)
  | .openWaitExpired i => decide (isLocker i)
  | .pulseEnded => true
  | .secondTick => true
  | .minuteTick => true
  | .flashPhase => true
  | .lampFrame => true
  | .lampTestEnd => true
  | .shareTick => true
  | .grantRound => true
  | .demand src seq d f k w a _ _ _ =>
      decide (isSource src ∧ isByte seq ∧ isWord16 d ∧ isWord16 f ∧ isWord16 k ∧ isByte w ∧ isWord16 a)
  | .offer src order cls collectBy digits =>
      decide (isSource src ∧ isWord24 order ∧ isByte cls ∧ isWord16 collectBy ∧ isByte digits)
  | .bid src order score locker => decide (isSource src ∧ isWord24 order ∧ isWord16 score ∧ isByte locker)
  | .claim src order score locker _ =>
      decide (isSource src ∧ isWord24 order ∧ isWord16 score ∧ isByte locker)
  | .resign src order locker => decide (isSource src ∧ isWord24 order ∧ isByte locker)
  | .windowEnd order => decide (1 ≤ order ∧ order ≤ 999999)
  | .time src minute second => decide (isSource src ∧ isWord16 minute ∧ isByte second)
  | .shed src mask => decide (isSource src ∧ isByte mask)
  | .notice src locker event reason order _ =>
      decide (isSource src ∧ isByte locker ∧ isByte event ∧ isByte reason ∧ isWord24 order)
  | .reply src verb outcome reason locker state data =>
      decide (isSource src ∧ isByte verb ∧ isByte outcome ∧ isByte reason ∧ isByte locker ∧ isByte state ∧
        data.length = 7 ∧ ∀ b ∈ data, isByte b)
  | .frameDiscarded => true
  | .addressClash => true
  | .command src dest verb ops =>
      decide (isSource src ∧ dest ≤ 31 ∧ isByte verb ∧ ops.length = 9 ∧ ∀ b ∈ ops, isByte b)
  | .load => true
  | .void => true
  | .clear => true
  | .block => true
  | .unblock => true
  | .query => true
  | .queryBank => true
  | .lampTest => true
  | .restart => true
  | .classWrite => true
  | .unknownVerb => true
  | .classWriteEnd => true
  | .attemptStart => true
  | .transmissionComplete => true
  | .collision => true
  | .lineSettled => true
  | .inStep => true
  | .jabber => true
  | .lossOfStep => true
  | .lineFaultCleared => true
  | .feederTripAsserted => true
  | .feederTripCleared => true
  | .supplyLowAsserted => true
  | .supplyLowCleared => true
  | .digitKey d => decide (d ≤ 9)
  | .clearKey => true
  | .enterKey => true
  | .keyReject k₁ k₂ => k₁ != k₂ && keyOk k₁ && keyOk k₂
  | .keysReleased => true
  | .entryTimeout => true
  | .strikeAgedOut => true
  | .lockoutEnd => true
  | .beeperPatternEnd => true
  | .lineActive => true
where
  keyOk : Key → Bool
    | .digit d => decide (d ≤ 9)
    | .clear => true
    | .enter => true

/-- The proposition form of `Instr.wellFormed`. -/
abbrev Instr.WellFormed (i : Instr) : Prop := i.wellFormed = true

end Sys2Proof
end

