-- ==== Sys2Proof/Tests/Slice0.lean ====
section
/-! SUPPORT. The model's own tests, each with an expected result from the text of spec/, and for each statement of
Obligations.lean a witness that meets its hypotheses. -/

namespace Sys2Proof.Tests

open Sys2Proof.Machine

/-! ### Ill-formed commands (WellFormed.lean) -/

theorem test_ill_first_reading_locker : (Instr.firstSweepReading 0 false false 40).wellFormed = false := by decide
theorem test_ill_first_reading_raw : (Instr.firstSweepReading 1 false false 256).wellFormed = false := by decide
theorem test_ill_probe_locker : (Instr.probeSample 33 40).wellFormed = false := by decide
theorem test_ill_probe_raw : (Instr.probeSample 32 256).wellFormed = false := by decide
theorem test_ill_door_opened : (Instr.doorOpened 0).wellFormed = false := by decide
theorem test_ill_door_closed : (Instr.doorClosed 33).wellFormed = false := by decide
theorem test_ill_tray_appeared : (Instr.trayAppeared 0).wellFormed = false := by decide
theorem test_ill_tray_removed : (Instr.trayRemoved 33).wellFormed = false := by decide
theorem test_ill_ajar : (Instr.ajar 0).wellFormed = false := by decide
theorem test_ill_open_wait : (Instr.openWaitExpired 33).wellFormed = false := by decide
theorem test_ill_demand_source : (Instr.demand 31 0 0 0 0 1 0 false false false).wellFormed = false := by decide
theorem test_ill_demand_figure : (Instr.demand 1 0 65536 0 0 1 0 false false false).wellFormed = false := by decide
theorem test_ill_offer : (Instr.offer 1 16777216 0 0 0).wellFormed = false := by decide
theorem test_ill_bid : (Instr.bid 1 5 65536 1).wellFormed = false := by decide
theorem test_ill_claim : (Instr.claim 31 5 1 1 false).wellFormed = false := by decide
theorem test_ill_resign : (Instr.resign 1 5 256).wellFormed = false := by decide
theorem test_ill_window_end : (Instr.windowEnd 1000000).wellFormed = false := by decide
theorem test_ill_time : (Instr.time 1 0 256).wellFormed = false := by decide
theorem test_ill_shed : (Instr.shed 1 256).wellFormed = false := by decide
theorem test_ill_notice : (Instr.notice 1 1 256 0 0 false).wellFormed = false := by decide
theorem test_ill_reply_data : (Instr.reply 1 6 0 0 0 0 [0, 0, 0, 0, 0, 0]).wellFormed = false := by decide
theorem test_ill_command_ops : (Instr.command 1 2 6 [0, 0, 0, 0, 0, 0, 0, 0, 256]).wellFormed = false := by decide
theorem test_ill_command_dest : (Instr.command 1 32 6 [0, 0, 0, 0, 0, 0, 0, 0, 0]).wellFormed = false := by decide
theorem test_ill_digit : (Instr.digitKey 10).wellFormed = false := by decide
theorem test_ill_key_reject_same : (Instr.keyReject .clear .clear).wellFormed = false := by decide
theorem test_ill_key_reject_digit : (Instr.keyReject (.digit 10) .enter).wellFormed = false := by decide
theorem test_well_command : (Instr.command 0 31 9 [7, 150, 130, 60, 2, 88, 10, 10, 20]).wellFormed = true := by decide

/-! ### Symbols and frames (R120 to R123) -/

/-- R120: a data value's group reads back as the value, with no value left out. -/
theorem test_data_groups_read_back :
    ((List.range 16).all fun n => Sym.ofGroup (dataGroup (BitVec.ofNat 4 n)) == .data (BitVec.ofNat 4 n)) = true := by
  decide

/-- R120: the groups the table gives the control symbols. -/
theorem test_control_groups :
    [0b00000#5, 0b01001#5, 0b01010#5, 0b00101#5, 0b10100#5, 0b11111#5].map Sym.ofGroup =
      [.quiet, .open1, .open2, .shut1, .shut2, .brk] := by decide

/-- R120: 16 data values and six control symbols leave ten groups invalid. -/
theorem test_ten_groups_invalid :
    ((List.range 32).countP fun n => Sym.ofGroup (BitVec.ofNat 5 n) == .invalid) = 10 := by decide

/-- R122: the remainder that the rule describes (all ones, x^16 + x^12 + x^5 + 1, not inverted) is 29B1 for the digits
1 to 9, as published for that polynomial and start. -/
theorem test_check_of_digits : checkOf [49, 50, 51, 52, 53, 54, 55, 56, 57] = 0x29B1#16 := by
  decide +kernel

/-- R121: SHED, the shortest frame, lasts 16 symbols, and REPLY, the longest, 38. -/
theorem test_frame_lengths :
    ((frameSymbols [10, 1, 31, 3]).length, (frameSymbols ([8, 1, 2] ++ List.replicate 12 0)).length) = (16, 38) := by
  decide

/-- R123: a frame that holds 35 data symbols is discarded at the 35th. -/
theorem test_frame_too_long :
    receiveAll .hunting ([.open1, .open2] ++ List.replicate 35 (.data 0)) = [.discarded] := by decide

/-- R123: an OPEN-1 inside a frame discards it and begins the next. -/
theorem test_open_inside_frame :
    (rxStep (.frame [1, 2] false false) .open1 false) = (.opened false, .discarded) := by decide

/-! ### A small bank -/

/-- The class of 3.1.1: T = 150, F = 130, L = 600, keep 10 on and 20 off; 2 minutes at most, G = 10. -/
def meals : ClassEntry := ⟨150, 130, 2, 600, 10, 10, 20⟩

/-- A swept, empty locker at 20.0 °C. -/
def empty : Locker := { Locker.init with swept := true, temp := 40, seeded := true }

/-- An order of class 0 with collect-by 1100, digits 27 and claim score 505. -/
def part : OrderPart := ⟨418203, 0, 1100, 27, 505⟩

/-- A record that holds the order. -/
def held (state : LockerState) : Locker := { empty with state := state, order := some part, temp := 126 }

/-- Station 0 with 8 lockers, in step and SHARING, at minute 1000, with class 0 set. -/
def bank (records : List Locker) : State :=
  { State.reset with
    time := { State.reset.time with clock := some 1000, classes := some meals :: List.replicate 7 none }
    lockers := records ++ List.replicate (8 - records.length) empty
    share := { Share.init with state := .sharing }
    line := { State.reset.line with inStep := true } }

/-- The state after a command. -/
def after (c : Instr) (s : State) : State :=
  match exec c s with
  | .next t => t
  | .fault _ => State.reset
  | .refused _ => State.reset

/-- The state after some commands. -/
def afterAll (cs : List Instr) (s : State) : State := cs.foldl (fun s c => after c s) s

/-- What a step answers, with nothing for a stop. -/
def next? (s : State) : Option State :=
  match step s with
  | .next t => some t
  | .fault _ => none
  | .refused _ => none

/-- The notices that wait, as event, locker and order. -/
def noticesOf (s : State) : List (NoticeEvent × Nat × Nat) :=
  s.line.notices.map fun q => (q.frame.event, q.frame.locker, q.frame.order)

/-- A COMMAND from station 20 to this bank, at the front of the inbox. -/
def asked (verb : Nat) (ops : List Nat) (s : State) : State :=
  { s with cip := ⟨[⟨20, 0, verb, ops⟩], .free⟩ }

/-- The bytes of order 418203 (R125: high byte first). -/
def orderOps : List Nat := [6, 97, 155, 0, 0, 0, 0, 0, 0]

theorem test_order_bytes : bytes24 418203 = [6, 97, 155] := by decide

/-! ### Probe samples and first readings -/

/-- 2.1: a locker at 130 whose probe reads 120 goes to 128, 126, 125, 124, 123, 122, and stays at 122. -/
theorem test_smoothing_falls :
    (List.range 8).map (fun n =>
      ((List.replicate n 120).foldl Locker.sampled { empty with temp := 130 }).temp) =
      [130, 128, 126, 125, 124, 123, 122, 122] := by decide

/-- R31: the first valid sample is taken as it is; R32: a fault sample leaves S. -/
theorem test_first_sample_seeds :
    ((Locker.init.sampled 120).temp, ({ empty with temp := 126 }.sampled 255).temp) = (120, 126) := by decide

/-- R33: the third fault sample of a HOLDING record makes FAULT(PROBE), with its notice. -/
theorem test_third_fault_sample :
    (let t := after (.probeSample 1 255) (bank [{ held .holding with faultRun := 2 }])
     ((t.locker? 1).map fun r => (r.state, r.faultReason, r.faultRun), noticesOf t)) =
      (some (.fault, some .probe, 3), [(.fault, 1, 418203)]) := by decide +kernel

/-- R40: S reaches the target 150 and the meal is ready: 3 × 149 + 151 + 2 = 600. -/
theorem test_ready_at_target :
    (let t := after (.probeSample 1 151) (bank [{ held .holding with temp := 149 }])
     ((t.locker? 1).map fun r => (r.temp, r.ready, r.phase), noticesOf t)) =
      (some (150, true, .keep), [(.ready, 1, 418203)]) := by decide +kernel

/-- R27: a first reading with a tray makes RETIRED(UNKNOWN), and its notice carries order number 0. -/
theorem test_first_reading_with_tray :
    (let t := after (.firstSweepReading 1 true true 60) (bank [Locker.init])
     ((t.locker? 1).map fun r => (r.swept, r.state, r.cycle, r.temp), noticesOf t)) =
      (some (true, .retired, .opened, 60), [(.retired, 1, 0)]) := by decide +kernel

/-! ### Doors, trays and latches -/

/-- R13: an opening in AWAIT-OPEN completes the release and stops the open wait. -/
theorem test_opening_completes_release :
    ((after (.doorOpened 1) (bank [{ held .releasing with cycle := .awaitOpen, openWait := some 5 }])).locker? 1).map
      (fun r => (r.state, r.cycle, r.openWait, r.level)) = some (.releasing, .opened, none, 0) := by decide +kernel

/-- R14: an opening that nothing released makes FAULT(FORCED). -/
theorem test_forced_opening :
    (let t := after (.doorOpened 1) (bank [held .holding])
     ((t.locker? 1).map fun r => (r.state, r.faultReason, r.cycle), noticesOf t)) =
      (some (.fault, some .forced, .none), [(.fault, 1, 418203)]) := by decide +kernel

/-- R9: a BLOCKED locker may be opened with its key. -/
theorem test_maintenance_opening :
    ((after (.doorOpened 1) (bank [{ empty with state := .blocked }])).locker? 1).map (fun r => (r.state, r.cycle)) =
      some (.blocked, .opened) := by decide +kernel

/-- A record with its door open in an OPEN cycle. -/
def opened (r : Locker) (tray : Bool) : Locker := { r with cycle := .opened, doorOpen := true, trayPresent := tray }

/-- R18: the load close. -/
theorem test_load_close :
    (let t := after (.doorClosed 1) (bank [opened (held .loading) true])
     ((t.locker? 1).map fun r => (r.state, r.cycle, r.level), noticesOf t)) =
      (some (.holding, .none, 6), [(.loaded, 1, 418203)]) := by decide +kernel

/-- R20: the collection. -/
theorem test_collection :
    (let t := after (.doorClosed 1) (bank [opened (held .releasing) false])
     ((t.locker? 1).map fun r => (r.state, r.order), noticesOf t)) =
      (some (.vacant, none), [(.collected, 1, 418203)]) := by decide +kernel

/-- R21: a meal that comes back with its cold exposure at L queues RETURNED before RETIRED. -/
theorem test_return_retires :
    (let t := after (.doorClosed 1) (bank [opened { held .releasing with cold := 600 } true])
     ((t.locker? 1).map fun r => (r.state, r.retireReason), noticesOf t)) =
      (some (.retired, some .cold), [(.returned, 1, 418203), (.retired, 1, 418203)]) := by decide +kernel

/-- R22: a clearing close. -/
theorem test_clearing_close :
    noticesOf (after (.doorClosed 1) (bank [{ opened (held .retired) false with retireReason := some .cold }])) =
      [(.cleared, 1, 418203)] := by decide +kernel

/-- R24: a tray that appears in a RESERVED locker behind a closed door. -/
theorem test_tray_appears :
    ((after (.trayAppeared 1) (bank [held .reserved])).locker? 1).map (fun r => (r.state, r.faultReason)) =
      some (.fault, some .tray) := by decide +kernel

/-- R24: a meal that is gone behind a closed door. -/
theorem test_tray_removed :
    ((after (.trayRemoved 1) (bank [{ held .holding with trayPresent := true }])).locker? 1).map
      (fun r => (r.state, r.faultReason)) = some (.fault, some .tray) := by decide +kernel

/-- R16: the ajar notice is given once. -/
theorem test_ajar_once :
    noticesOf (afterAll [.ajar 1, .ajar 1] (bank [{ opened (held .loading) false with ajar := some 12000000 }])) =
      [(.ajar, 1, 418203)] := by decide +kernel

/-- R12: the first open wait is retried. -/
theorem test_open_wait_retries :
    (let t := after (.openWaitExpired 1) (bank [{ held .releasing with cycle := .awaitOpen, openWait := some 200000 }])
     ((t.locker? 1).map fun r => (r.cycle, r.attempts), t.latch.pulse)) = (some (.pulsing, 1), some ⟨1, 0⟩) := by
  decide +kernel

/-- R12: the second makes FAULT(LATCH). -/
theorem test_open_wait_faults :
    ((after (.openWaitExpired 1)
      (bank [{ held .releasing with cycle := .awaitOpen, openWait := some 200000, attempts := 1 }])).locker? 1).map
      (fun r => (r.state, r.faultReason, r.cycle)) = some (.fault, some .latch, .none) := by decide +kernel

/-- Locker 1 in its pulse and locker 2 queued. -/
def twoReleases : State :=
  { bank [{ held .releasing with cycle := .pulsing },
      { empty with state := .retired, cycle := .queued, retireReason := some .unknown }] with
    latch := ⟨[2], some ⟨1, 30000⟩⟩ }

/-- R166: at a pulse's end the next head is served. -/
theorem test_pulse_end :
    (let t := after .pulseEnded twoReleases
     (t.latch, (t.locker? 1).map Locker.cycle, (t.locker? 2).map Locker.cycle)) =
      (⟨[], some ⟨2, 0⟩⟩, some .awaitOpen, some .pulsing) := by decide +kernel

/-- R167: not under SUPPLY LOW. -/
theorem test_pulse_end_supply_low :
    (after .pulseEnded { twoReleases with time := { twoReleases.time with supplyLow := true } }).latch = ⟨[2], none⟩ := by
  decide +kernel

/-! ### Ticks -/

/-- R36, R37: the 600th cold second retires a meal as COLD. -/
theorem test_cold_retires :
    (let t := after .secondTick (bank [{ held .holding with cold := 599 }])
     ((t.locker? 1).map fun r => (r.state, r.retireReason, r.cold), noticesOf t)) =
      (some (.retired, some .cold, 600), [(.retired, 1, 418203)]) := by decide +kernel

/-- R54: after keep_on seconds the keep phase turns OFF, and the level is 0. -/
theorem test_keep_turns_off :
    ((after .secondTick (bank [{ held .holding with temp := 150, phase := .keep, keepCount := 9 }])).locker? 1).map
      (fun r => (r.keepOn, r.keepCount, r.level)) = some (false, 0, 0) := by decide +kernel

/-- 2.4: four records judged at minute 1131 after a correction of the clock. -/
def corrected : State :=
  afterAll [.time 20 1130 40, .minuteTick] <|
    { bank [{ held .holding with order := some ⟨204117, 0, 1105, 11, 1⟩ },
        { held .reserved with order := some ⟨204150, 0, 1110, 11, 1⟩ },
        { held .holding with order := some ⟨204133, 1, 1120, 11, 1⟩ },
        { held .holding with order := some ⟨204162, 2, 1130, 11, 1⟩ }] with
      time := { State.reset.time with
        clock := some 1100
        classes := [some meals, some { meals with grace := 5 }, some { meals with grace := 15 }] ++
          List.replicate 5 none } }

/-- 2.4: RETIRED(EXPIRED), LAPSED and RETIRED(EXPIRED) in index order; the last meal stays. -/
theorem test_forward_correction :
    (corrected.time.clock, noticesOf corrected, (corrected.locker? 4).map Locker.state) =
      (some 1131, [(.retired, 1, 204117), (.lapsed, 2, 204150), (.retired, 3, 204133)], some .holding) := by
  decide +kernel

/-- 2.4: expiry minute 5, seen from before and after midnight. -/
theorem test_expiry_across_midnight :
    [1435, 1439, 0, 3, 4, 5].map (fun now => isDue (some now) ((1435 + 10) % 1440)) =
      [false, false, false, false, false, true] := by decide

/-- 2.4: collect-by 2, seen from minute 1430 on. -/
theorem test_minutes_to_collect :
    [1430, 1432, 1439, 0, 1, 2].map (fun now => minutesToCollect (some now) 2) = [12, 10, 3, 2, 1, 0] := by decide

/-- 2.4: collect-by 130 at minute 901 lies 669 minutes ahead. -/
theorem test_far_correction : minutesToCollect (some 901) 130 = 669 := by decide

/-- R187: a TIME frame out of range changes nothing. -/
theorem test_time_out_of_range : after (.time 20 1440 0) (bank []) = bank [] := by decide +kernel

/-- R186: the flash phase, lit by a second tick, turns dark. -/
theorem test_flash_phase : (afterAll [.secondTick, .flashPhase] (bank [])).time.flashLit = false := by decide +kernel

/-! ### Lamps -/

/-- R184: a FAULT position flashes red and a RETIRED one is steady red, in the flash's dark half. -/
theorem test_lamp_frame :
    ((after .lampFrame (bank [held .fault, held .retired])).lamp.frame.take 2) =
      [⟨false, false, false⟩, ⟨true, false, false⟩] := by decide +kernel

/-- R185: a lamp test lights every element until its end. -/
theorem test_lamp_test :
    ((afterAll [.lampTest, .lampFrame] (asked 7 [30, 0, 0, 0, 0, 0, 0, 0, 0] (bank []))).lamp.frame.all
        fun p => p == ⟨true, true, true⟩,
      (afterAll [.lampTest, .lampTestEnd] (asked 7 [30, 0, 0, 0, 0, 0, 0, 0, 0] (bank []))).lamp.test) =
      (true, none) := by decide +kernel

/-! ### Heat and shares -/

/-- 3.1.1: six records of one class and their levels. -/
theorem test_levels_of_one_class :
    ([{ held .holding with temp := 126, cold := 310 }, { held .holding with temp := 126, cold := 120 },
      { held .releasing with temp := 141 }, { held .holding with temp := 141 }, { held .reserved with temp := 97 },
      { held .holding with temp := 149, phase := .keep, keepOn := false }].zip [40, 40, 0, 30, 8, 30]).map
      (fun x => tableLevel x.1 meals x.2) = [7, 6, 5, 4, 3, 0] := by decide

/-- A locker at a level. -/
def atLevel (level : Nat) : Locker := { empty with level := level }

/-- 3.8: the bank of 24 lockers, A = 55, with the pointers before the first round. -/
def rounds : State :=
  { bank [] with
    lockers := [4, 6, 1, 7, 4, 0, 0, 0, 6, 0, 4, 0, 0, 0, 0, 0, 0, 0, 0, 4, 0, 0, 0, 0].map atLevel
    share := { Share.init with state := .sharing, allowance := 55 }
    grant := { Grant.init with pointers := [0, 0, 0, 5, 0, 0, 0] } }

/-- 3.8: the figures D, Fb and K. -/
theorem test_demand_floor_ceiling : (rounds.demandHU, rounds.floorHU, rounds.ceilingHU) = (64, 24, 192) := by
  decide +kernel

/-- 3.8: the first and the second round. -/
theorem test_two_grant_rounds :
    ((after .grantRound rounds).grant.list, (afterAll [.grantRound, .grantRound] rounds).grant.list,
      (afterAll [.grantRound, .grantRound] rounds).grant.pointers) =
      ([4, 2, 9, 11, 20, 1], [4, 2, 9, 5, 11, 20], [0, 0, 0, 20, 0, 9, 4]) := by decide +kernel

/-- 3.8: a trip empties the list, and a round under it leaves the pointers. -/
theorem test_trip_empties_list :
    (let t := afterAll [.grantRound, .feederTripAsserted, .grantRound] rounds
     (t.grant.list, t.grant.pointers, t.share.allowance)) = ([], [0, 0, 0, 1, 0, 9, 4], 0) := by decide +kernel

/-- 4.9: four members on a wall of code 2, own A = 40: T = 69 and A = 55, then 69. -/
def wall : State :=
  { bank [] with
    straps := { zeroStraps with station := 3, capacity := 2 }
    lockers := (List.replicate 4 6 ++ List.replicate 8 4 ++ List.replicate 4 0).map atLevel
    share := { Share.init with
      state := .sharing
      allowance := 40
      peers := [⟨5, 0, 160, 48, 192, 1, 0, false, 0, false⟩, ⟨9, 0, 100, 16, 256, 1, 0, false, 9, true⟩,
        ⟨12, 0, 64, 0, 64, 3, 0, false, 0, false⟩] } }

theorem test_four_member_share :
    (wall.target, (after .shareTick wall).share.allowance,
      (afterAll [.shareTick, .transmissionComplete, .shareTick] wall).share.allowance) = (69, 55, 69) := by
  decide +kernel

/-- 4.9: the DEMAND of the tick carries D = 96, F = 32, K = 8 × N, W = 1, A = 55 and no flags. -/
theorem test_announcement :
    (after .shareTick wall).line.demand = some ⟨⟨1, 96, 32, 128, 1, 55, false, false, false⟩, 0⟩ := by decide +kernel

/-- 4.9: what each of the four members would get. -/
theorem test_every_member_target :
    (let ms : List Member := [⟨96, 32, 1⟩, ⟨160, 48, 1⟩, ⟨256, 16, 1⟩, ⟨64, 0, 3⟩]
     ms.map fun m => sharedTarget 450 m.demand m.floor m.weight ms) = [69, 113, 155, 64] := by decide

/-- 4.10: floors beyond the feeder, and a wall where everything fits. -/
theorem test_share_limits :
    (sharedTarget 225 64 64 1 [⟨64, 64, 1⟩, ⟨80, 80, 1⟩, ⟨96, 96, 1⟩, ⟨32, 32, 1⟩],
      sharedTarget 900 64 16 1 [⟨64, 16, 1⟩, ⟨120, 40, 1⟩, ⟨80, 0, 1⟩]) = (52, 64) := by decide

/-- 4.10: the same bank ISOLATED takes min(96, 28). -/
theorem test_isolated_share :
    (after .shareTick { wall with share := { wall.share with state := .isolated, allowance := 69 } }).share.allowance =
      28 := by decide +kernel

/-- R76: the figures of a DEMAND are clamped. -/
theorem test_demand_clamped :
    (after (.demand 7 9 300 280 200 9 2000 true false false) (bank [])).share.peers =
      [⟨7, 9, 256, 256, 256, 4, 1440, true, 0, false⟩] := by decide +kernel

/-- R57: SHED takes the low three bits. -/
theorem test_shed : (after (.shed 20 0b11111101) (bank [])).grant.mask = 5 := by decide +kernel

/-- R93, R92: after a trip clears, A ramps from 0 by r = 7. -/
theorem test_power_conditions :
    (afterAll [.feederTripAsserted, .feederTripCleared, .shareTick]
      { rounds with share := { rounds.share with sentMark := true } }).share.allowance = 7 := by decide +kernel

/-- R167: a request waits out SUPPLY LOW. -/
theorem test_supply_low_holds_queue :
    ((after .pulseEnded (after .supplyLowAsserted twoReleases)).latch,
      (afterAll [.supplyLowAsserted, .pulseEnded, .supplyLowCleared] twoReleases).latch) =
      (⟨[2], none⟩, ⟨[], some ⟨2, 0⟩⟩) := by decide +kernel

/-! ### Offers, bids and claims -/

/-- 5.7: the entries of a bank with these records and this allowance at the OFFER: score and candidate. -/
def offered (records : List Locker) (allowance : Nat) : List (Nat × Nat) :=
  (after (.offer 20 512044 0 1110 38)
    { bank records with share := { Share.init with state := .sharing, allowance := allowance } }).book.map
    fun e => (e.score, e.candidate)

/-- 5.7: banks 3 and 7, with 5 free lockers each, D = 96 and D = 24. -/
theorem test_scores_at_the_offer :
    (offered (List.replicate 4 empty ++ [{ empty with state := .blocked }, { empty with temp := 134 }] ++
        List.replicate 12 { empty with state := .blocked, level := 4 }) 55,
      offered ([empty, { empty with temp := 128 }] ++ List.replicate 3 empty ++
        List.replicate 3 { empty with state := .blocked, level := 4 }) 48) = ([(505, 6)], [(530, 2)]) := by
  decide +kernel

/-- 5.7: the ranking of the three pairs, and of equal scores (R100). -/
theorem test_ranking :
    (ScorePair.beats ⟨530, 7⟩ ⟨505, 3⟩, ScorePair.beats ⟨505, 3⟩ ⟨305, 12⟩, ScorePair.beats ⟨505, 3⟩ ⟨505, 7⟩,
      ScorePair.beats ⟨505, 3⟩ ⟨530, 7⟩) = (true, true, true, false) := by decide

/-- 5.7: an open entry for order 512044 with own score 505 and candidate 6, at station 3. -/
def bidding : State :=
  { bank [] with
    straps := { zeroStraps with station := 3 }
    book := [⟨512044, 0, 1100, 33, 505, 6, none, 0⟩] }

/-- 5.7: bank 3 records (305, 12) and wins: locker 6 is RESERVED with claim score 505. -/
theorem test_bank_3_wins :
    (let t := afterAll [.bid 12 512044 305 11, .windowEnd 512044] bidding
     ((t.locker? 6).map fun r => (r.state, r.order), t.book, t.line.orders.map Queued.frame)) =
      (some (.reserved, some ⟨512044, 0, 1100, 33, 505⟩), [], [⟨512044, .claim 505 6 false⟩]) := by decide +kernel

/-- 5.7: had the CLAIM of bank 7 come first, bank 3 would lose. -/
theorem test_claim_counts_as_bid :
    (let t := afterAll [.claim 7 512044 530 2 false, .windowEnd 512044] bidding
     ((t.locker? 6).map Locker.state, t.book, t.line.orders)) = (some .vacant, [], []) := by decide +kernel

/-- 5.7, step 2: bank 3 yields to (530, 7); a RESIGN from there is ignored. -/
theorem test_bank_3_yields :
    (let t := afterAll [.windowEnd 512044, .claim 7 512044 530 2 false, .resign 7 512044 2] bidding
     ((t.locker? 6).map Locker.state, t.line.orders.map Queued.frame)) =
      (some .vacant, [⟨512044, .resign 6⟩]) := by decide +kernel

/-- 5.7, a loaded rival: a LOADING record answers a CLAIM without LOADED by its own with LOADED. -/
theorem test_loading_stands :
    ((after (.claim 7 418203 999 2 false) (bank [{ held .loading with cycle := .awaitOpen }])).line.orders.map
      Queued.frame) = [⟨418203, .claim 505 1 true⟩] := by decide +kernel

/-! ### The line -/

/-- 6.10: bank 2 with one NOTICE, at its threshold 28. -/
def bank2 : State :=
  { bank [] with
    straps := { zeroStraps with station := 2 }
    line := { Line.init 2 false with
      inStep := true, accessCount := 28, notices := [⟨⟨3, .loaded, .none, 1, false⟩, 0⟩] } }

/-- 6.10, R134: the attempt begins, 28 symbols long, with OPEN-1 first. -/
theorem test_attempt_start :
    (after .attemptStart bank2).line.wire.map (fun a => (a.list, a.symbols.length, a.symbols.head?)) =
      some (.notice, 28, some .open1) := by decide +kernel

/-- 6.10, R136: the register goes from 2 to 5, and the extra wait is 10; the attempt count is 1. -/
theorem test_collision_bank_2 :
    (let l := (afterAll [.attemptStart, .collision] bank2).line
     (l.backoff, l.extraWait, l.notices.map Queued.attempts, l.accessCount)) = (5, 10, [1], 0) := by decide +kernel

/-- R127, R136: an own BREAK that meets a monitor settled by the other station's BREAK makes it ACTIVE with count 1. -/
theorem test_break_after_break :
    (let s := after .attemptStart bank2
     let x := ({ s.line with wire := s.line.wire.map fun a => { a with breaking := true } } : Line).symbolTime 2 .brk
     let l := (afterAll x.2 { s with line := x.1 }).line
     (x.2, l.active, l.activityCount, l.wire.isNone)) = ([.lineActive, .collision], true, 1, true) := by decide +kernel

/-- R134: an attempt is due at the threshold, and not where the last symbol has made the monitor ACTIVE. -/
theorem test_no_attempt_on_active_line :
    (bank2.attemptDue, { bank2 with owed := [[.lineActive]] }.attemptDue) = (true, false) := by decide +kernel

/-- 6.10: the register of bank 6 goes from 6 to 13. -/
theorem test_backoff_bank_6 : nextBackoff 6 = 13 := by decide

/-- 6.10: the retry completes; the notice leaves the list, and the extra wait is 0. -/
theorem test_completion_bank_2 :
    (let l := (afterAll [.attemptStart, .collision, .attemptStart, .transmissionComplete] bank2).line
     (l.notices, l.extraWait, l.wire)) = ([], 0, none) := by decide +kernel

/-- 6.11: station 4 loses the line with a REPLY on the wire. -/
def lost : State :=
  after .lossOfStep
    { bank [] with
      straps := { zeroStraps with station := 4 }
      book := [⟨630140, 0, 1100, 33, 505, 6, none, 0⟩]
      line := { Line.init 4 false with
        inStep := true
        replies := [⟨⟨20, 1, .accept, .none, 3, 2, [0, 0, 0, 0, 0, 0, 0]⟩, 0⟩]
        orders := [⟨⟨630118, .claim 1 2 false⟩, 1⟩, ⟨⟨630140, .bid 1 6⟩, 0⟩]
        demand := some ⟨⟨1, 0, 0, 64, 1, 0, false, false, false⟩, 0⟩
        notices := [⟨⟨3, .loaded, .none, 1, false⟩, 0⟩, ⟨⟨12, .ready, .none, 2, false⟩, 0⟩]
        wire := some ⟨.reply, [.quiet], false, true⟩ } }

/-- 6.11: the reply and order lists are emptied, the DEMAND slot and the notices kept, the bank isolated. -/
theorem test_loss_of_step :
    (lost.line.replies, lost.line.orders, lost.line.demand.isSome, lost.line.notices.length) = ([], [], true, 2) ∧
      (lost.line.wire, lost.share.state, lost.book) = (none, .isolated, []) := by decide +kernel

/-- 6.11: the station comes back in step and its DEMAND goes out first; its completion begins JOINING. -/
theorem test_comes_back_in_step :
    (let t := afterAll [.lineFaultCleared, .inStep, .attemptStart] lost
     (t.line.inStep, t.line.wire.map Attempt.list, (after .transmissionComplete t).share.state)) =
      (true, some .demand, .joining) := by decide +kernel

/-- Station 0 with a DEMAND on the wire that has these symbols still to send, and the loss of step that meets it. -/
def lostDemand (symbols : List Sym) : State :=
  after .lossOfStep
    { bank [] with
      share := { Share.init with state := .sharing, sentMark := false }
      line := { (bank []).line with
        demand := some ⟨⟨1, 0, 0, 64, 1, 0, false, false, false⟩, 0⟩
        wire := some ⟨.demand, symbols, false, true⟩ } }

/-- R84, R141: a DEMAND read back whole is sent, and ends ISOLATED with the sent mark yes though the loss is taken first; one
with its SHUT-2 still to send is cut off, stays in the slot and is not reported. -/
theorem test_loss_meets_completion :
    [lostDemand [], lostDemand [.shut2]].map (fun s =>
      let t := after .transmissionComplete s
      (t.share.state, t.share.sentMark, t.line.demand.isSome)) =
      [(.isolated, true, false), (.isolated, false, true)] := by decide +kernel

/-- R129, R141: a NOTICE that is read back whole has been sent when the loss comes, and one cut off stays in the list. -/
theorem test_loss_meets_notice :
    ([[], [.shut2]].map fun symbols =>
      (after .lossOfStep { bank2 with line := { bank2.line with wire := some ⟨.notice, symbols, false, true⟩ } }
        ).line.notices.length) = [0, 1] := by decide +kernel

/-- R127: LINE_ACTIVE and LINE_SETTLED. -/
theorem test_line_monitor :
    (let t := after .lineActive bank2
     (t.line.active, t.line.activityCount, t.line.accessCount, (after .lineSettled t).line.active)) =
      (true, 1, 0, false) := by decide +kernel

/-- R127, R129: a jabbering line throws the station out of step. -/
theorem test_jabber :
    (let t := afterAll [.lineActive, .jabber] bank2
     (t.line.inStep, t.line.active, t.line.activityCount)) = (false, true, 400) := by decide +kernel

/-- R142: a clash makes the bank listen-only and ISOLATED; R143: it takes no attempt. -/
theorem test_address_clash :
    (let t := afterAll [.addressClash, .attemptStart] bank2
     (t.line.listenOnly, t.share.state, t.line.wire, t.line.notices.length)) = (true, .isolated, none, 1) := by
  decide +kernel

/-- R123: a frame inside the receiver is discarded without a trace. -/
theorem test_frame_discarded :
    (after .frameDiscarded { bank2 with line := { bank2.line with rx := .frame [1] false false } }).line.rx = .hunting := by
  decide +kernel

/-- R140: NOTICE and REPLY of other stations are passed over. -/
theorem test_passed_over :
    afterAll [.notice 4 1 1 0 5 false, .reply 4 6 0 0 1 3 [0, 0, 0, 0, 0, 0, 0]] bank2 = bank2 := by decide +kernel

/-! ### Commands -/

/-- R147: a COMMAND joins the inbox; a fifth is answered BUSY (R148). -/
theorem test_inbox_full :
    (let t := afterAll (List.replicate 5 (.command 20 0 6 [1, 0, 0, 0, 0, 0, 0, 0, 0])) (bank [])
     (t.cip.inbox.length, t.line.replies.map fun q => (q.frame.outcome, q.frame.dest))) = (4, [(.busy, 20)]) := by
  decide +kernel

/-- The outcome, reason, locker and state of the replies that wait. -/
def repliesOf (s : State) : List (ReplyOutcome × ReplyReason × Nat × Nat) :=
  s.line.replies.map fun q => (q.frame.outcome, q.frame.reason, q.frame.locker, q.frame.state)

/-- R151: LOAD of a RESERVED order begins a door cycle. -/
theorem test_load :
    (let t := after .load (asked 1 orderOps (bank [held .reserved]))
     ((t.locker? 1).map fun r => (r.state, r.cycle), t.latch.pulse, repliesOf t)) =
      (some (.loading, .pulsing), some ⟨1, 0⟩, [(.accept, .none, 1, 2)]) := by decide +kernel

/-- R152: VOID of a HOLDING order retires it. -/
theorem test_void :
    (let t := after .void (asked 2 orderOps (bank [held .holding]))
     (((t.locker? 1).map Locker.state, noticesOf t), repliesOf t)) =
      ((some .retired, [(.retired, 1, 418203)]), [(.accept, .none, 1, 5)]) := by decide +kernel

/-- A locker verb's operands. -/
def lockerOps (i : Nat) : List Nat := [i, 0, 0, 0, 0, 0, 0, 0, 0]

/-- R153: CLEAR of a RETIRED record opens its door. -/
theorem test_clear :
    (let t := after .clear (asked 3 (lockerOps 1) (bank [{ held .retired with retireReason := some .cold }]))
     ((t.locker? 1).map Locker.cycle, repliesOf t)) = (some .pulsing, [(.accept, .none, 1, 5)]) := by decide +kernel

/-- R154: BLOCK of the last locker, and of one above N. -/
theorem test_block :
    (repliesOf (after .block (asked 4 (lockerOps 8) (bank []))),
      repliesOf (after .block (asked 4 (lockerOps 9) (bank [])))) =
      ([(.accept, .none, 8, 6)], [(.refuse, .noSuchLocker, 0, 0)]) := by decide +kernel

/-- R154: UNBLOCK. -/
theorem test_unblock :
    ((after .unblock (asked 5 (lockerOps 1) (bank [{ empty with state := .blocked }]))).locker? 1).map Locker.state =
      some .vacant := by decide +kernel

/-- R15: an UNBLOCK keeps the door cycle and its attempts. -/
theorem test_unblock_keeps_cycle :
    ((after .unblock (asked 5 (lockerOps 1)
      (bank [{ empty with state := .blocked, cycle := .awaitOpen, openWait := some 5, attempts := 1 }]))).locker? 1).map
      (fun r => (r.state, r.cycle, r.attempts)) = some (.vacant, .awaitOpen, 1) := by decide +kernel

/-- 7.5: QUERY of a record with order 418203, S = 126, level 6, not granted, E = 590 and hold age 2400. -/
theorem test_query :
    (after .query (asked 6 (lockerOps 1)
      (bank [{ held .holding with level := 6, cold := 590, holdAge := 2400 }]))).line.replies.map
      (fun q => q.frame.data) = [[6, 97, 155, 126, 6, 73, 40]] := by decide +kernel

/-- R156: QUERY of the bank of 4.9. -/
theorem test_query_bank :
    (after .queryBank (asked 6 (lockerOps 0) wall)).line.replies.map (fun q => q.frame.data) =
      [[0, 40, 0, 96, 3, 2, 0]] := by decide +kernel

/-- R158: RESTART is answered first, and the reply's completion makes the warm restart. -/
theorem test_restart :
    (let t := after .restart (asked 8 (lockerOps 0) { bank [] with grant := { Grant.init with mask := 3 } })
     (t.cip.proc, t.grant.mask, (afterAll [.attemptStart, .transmissionComplete] t).cip.proc,
      (afterAll [.attemptStart, .transmissionComplete] t).grant.mask)) = (.restarting, 3, .free, 0) := by decide +kernel

/-- A CLASS command for class 7 with the figures of `meals`. -/
def classOps : List Nat := [7, 150, 130, 2, 2, 88, 10, 10, 20]

/-- R159: CLASS in COMMISSION writes the store and the table, and is answered at the end of the write. -/
theorem test_class_write :
    (let s := asked 9 classOps { bank [] with straps := { zeroStraps with commission := true } }
     let t := after .classWrite s
     (repliesOf t, repliesOf (after .classWriteEnd t), (after .classWriteEnd t).time.store[7]?)) =
      ([], [(.accept, .none, 0, 0)], some (some meals)) := by decide +kernel

/-- R159: outside COMMISSION it is refused NOT-COMMISSIONING. -/
theorem test_class_refused :
    repliesOf (after .classWrite (asked 9 classOps (bank []))) = [(.refuse, .notCommissioning, 0, 0)] := by
  decide +kernel

/-- R150: an unknown verb is refused BAD-VALUE. -/
theorem test_unknown_verb :
    repliesOf (after .unknownVerb (asked 10 (lockerOps 0) (bank []))) = [(.refuse, .badValue, 0, 0)] := by
  decide +kernel

/-! ### Keypad -/

/-- The keys of a run of digits, each released before the next. -/
def typed (ds : List Nat) : List Instr := ds.flatMap fun d => [.digitKey d, .keysReleased]

/-- R25, R176: order 418203 with digits 27 opens its locker. -/
theorem test_enter_releases :
    (let t := afterAll (typed [4, 1, 8, 2, 0, 3, 2, 7] ++ [.enterKey]) (bank [held .holding])
     ((t.locker? 1).map fun r => (r.state, r.cycle), t.keypad.buffer, t.keypad.beeper)) =
      (some (.releasing, .pulsing), [], some ⟨.accept, 0⟩) := by decide +kernel

/-- R179, R180: a third refused entry starts a lockout. -/
theorem test_third_strike :
    (let t := afterAll (typed [1, 2] ++ [.enterKey]) { bank [] with keypad := { Keypad.init with strikes := [9, 5] } }
     (t.keypad.strikes, t.keypad.lockout, t.keypad.beeper)) = ([], some 0, some ⟨.lockout, 0⟩) := by decide +kernel

/-- R174: a ninth digit makes the entry overlong; CLEAR empties it. -/
theorem test_overlong_and_clear :
    (let t := afterAll (typed [1, 2, 3, 4, 5, 6, 7, 8, 9]) (bank [])
     (t.keypad.buffer, t.keypad.overlong, (after .clearKey t).keypad.buffer, (after .clearKey t).keypad.overlong)) =
      ([1, 2, 3, 4, 5, 6, 7, 8], true, [], false) := by decide +kernel

/-- R173: two keys together are rejected, and no key is accepted until all are up. -/
theorem test_key_reject :
    (afterAll [.keyReject (.digit 1) .enter, .digitKey 2] (bank [])).keypad.buffer = [] := by decide +kernel

/-- R175, R178 to R180: the four keypad timers end. -/
theorem test_keypad_timers :
    (let s := { bank [] with keypad := { Keypad.init with
       buffer := [1], entryTimer := some 1000000, strikes := [6000000, 2], lockout := some 3000000,
       beeper := some ⟨.ack, 9⟩ } }
     let t := afterAll [.entryTimeout, .strikeAgedOut, .lockoutEnd, .beeperPatternEnd] s
     (t.keypad.buffer, t.keypad.strikes, t.keypad.lockout, t.keypad.beeper)) = ([], [2], none, none) := by
  decide +kernel

/-! ### Resets -/

/-- R191, R188: a power-on reset samples the straps: N = 32 at code 3, listen-only at station 31. -/
theorem test_power_on :
    (let t := after (.powerOnReset ⟨31, 3, 7, 3, true⟩) (bank [held .holding])
     (t.count, t.line.listenOnly, t.usable, t.weight, t.time.clock, t.lockers.all fun r => r == Locker.init)) =
      (32, true, 1350, 4, none, true) := by decide +kernel

/-- R28, R192: a warm restart reverts a LOADING record in its pulse, and keeps the clock. -/
theorem test_warm_restart :
    (let t := after .warmRestart (bank [{ held .loading with cycle := .pulsing }])
     ((t.locker? 1).map fun r => (r.state, r.cycle), t.time.clock, t.line.inStep)) =
      (some (.reserved, .none), some 1000, false) := by decide +kernel

/-! ### The step -/

/-- No row has bits, so no word changes the queue. -/
theorem test_no_word_spells_a_command : decodeTableWord 8 5 = none ∧ State.reset.withFetchWord 8 5 = State.reset := by
  decide +kernel

/-- Log 1: an idle step at reset lets 10 µs pass. -/
theorem test_idle_step : (next? State.reset).map (fun t => (t.time.divider, t.line.accessCount, t.line.inStepCount)) =
    some (1, 1, 1) := by decide +kernel

/-- R123, R127: an idle step reads OPEN-1, and the monitor's change is owed. -/
theorem test_idle_step_reads_line :
    (next? { bank [] with pins := { Pins.atRest with line := [0b01001] } }).map (fun t => (t.line.rx, t.owed)) =
      some (.opened false, [[.lineActive]]) := by decide +kernel

/-- R186: a second tick that wraps the count brings its minute tick. -/
theorem test_minute_follows :
    ({ bank [] with time := { State.reset.time with second := 59 } }.withMinute .secondTick) =
      [.secondTick, .minuteTick] := by decide +kernel

/-! ### Witnesses: the step, the resets and the laws

A witness shows a state and operands that meet the hypotheses of a statement, or of one of its clauses. -/

theorem witness_StepRunsFrontCommand :
    { State.reset with pending := [.pulseEnded, .flashPhase] }.pending = .pulseEnded :: [.flashPhase] := rfl

theorem witness_IdleStepRunsClockwork_time : State.reset.pending = [] ∧ State.reset.strands = [] := by decide +kernel

theorem witness_IdleStepRunsClockwork_strand :
    { State.reset with owed := [[.flashPhase]] }.pending = [] ∧
    { State.reset with owed := [[.flashPhase]] }.strands ≠ [] := by decide +kernel

/-- For the rows that are due: timers at their times, and a frame at its threshold with nothing owed. -/
theorem witness_IdleStepRunsClockwork_due :
    (let r := { held .releasing with cycle := .awaitOpen, openWait := some 200000 }
     (bank [r]).locker? 1 = some r ∧ r.openWait = some 200000) ∧
    (let r := { opened (held .loading) false with ajar := some 12000000 }
     (bank [r]).locker? 1 = some r ∧ r.ajarGiven = false ∧ r.ajar = some 12000000) ∧
    (⟨1, 30000⟩ : Pulse).time = 30000 ∧ { Keypad.init with strikes := [6000000, 2] }.strikes = 6000000 :: [2] ∧
    (bank2.line.nextInLine.map fun x => (x.1, x.2.1)) = some (.notice, 24) ∧ bank2.owed = [] ∧
    { bank2 with owed := [[.lineActive]] }.owed = [[.lineActive]] := by decide +kernel

/-- A bank out of step whose timers all stand this much below their times. -/
def timersShortBy (n : Nat) : State :=
  { bank [{ held .releasing with cycle := .awaitOpen, openWait := some (200000 - n) },
      { opened (held .loading) false with ajar := some (12000000 - n), traySettle := some (5000 - n) },
      { empty with doorSettle := some (5000 - n) }] with
    time := { State.reset.time with tripSettle := some (1000 - n), supplySettle := some (200 - n) }
    latch := ⟨[], some ⟨1, 30000 - n⟩⟩
    keypad := { Keypad.init with
      scanKey := some .enter, settle := some (2000 - n), entryTimer := some (1000000 - n), strikes := [6000000 - n],
      lockout := some (3000000 - n), beeper := some ⟨.alert, 110000 - n⟩ }
    book := [⟨512044, 0, 1100, 33, 505, 6, none, 40000 - n⟩]
    line := { Line.init 0 false with inStepCount := 32 - n }
    cip := ⟨[⟨20, 0, 1, orderOps⟩], .writing ⟨0, meals, 20, 0, 2000 - n⟩⟩
    lamp := { State.reset.lamp with test := some n }
    pins := { Pins.atRest with keys := [.enter] } }

/-- For the rows that are due: none before its time, and each at its time. -/
theorem witness_IdleStepRunsClockwork_timers :
    (timersShortBy 1).due = [] ∧
    (timersShortBy 0).due =
      [[.inStep], [.feederTripAsserted], [.supplyLowAsserted], [.openWaitExpired 1], [.ajar 2], [.trayAppeared 2],
        [.doorOpened 3], [.pulseEnded], [.enterKey], [.entryTimeout], [.lockoutEnd], [.beeperPatternEnd],
        [.strikeAgedOut], [.windowEnd 512044], [.classWriteEnd], [.lampTestEnd]] := by decide +kernel

/-- The processor's take, and the key scanner with two keys down and with all up. -/
theorem witness_IdleStepRunsClockwork_takes :
    (asked 6 [0, 0, 0, 0, 0, 0, 0, 0, 0] (bank [])).due = [[.queryBank]] ∧
    ([(ScanState.up, [Key.enter, .clear]), (.down, [.enter, .clear]), (.down, []), (.reject, [])].map fun x =>
      { bank [] with
        keypad := { Keypad.init with scan := x.1, scanKey := some .enter, settle := some 2000 }
        pins := { Pins.atRest with keys := x.2 } }.due) =
      [[[.keyReject .enter .clear]], [[.keyReject .enter .clear]], [[.keysReleased]], [[.keysReleased]]] := by
  decide +kernel

/-- The rows of the cadences: the 10 µs that bring every cadence to 0, the scan to locker 1 and the divider to its
half. -/
theorem witness_IdleStepRunsClockwork_beats :
    ([99999, 49999].map fun n =>
      (next? { State.reset with
        time := { State.reset.time with divider := n }
        scanAt := 12499
        share := { Share.init with cadence := 24999 }
        grant := { Grant.init with cadence := 99999 }
        lamp := { State.reset.lamp with cadence := 99 } }).map State.owed) =
      [.secondTick, .flashPhase].map fun c =>
        some [[c], [.shareTick], [.grantRound], [.lampFrame], [.firstSweepReading 1 false false 40]] := by decide +kernel

/-- For one symbol: a BREAK under way, a symbol that reads back wrong, and the last one read back. -/
theorem witness_IdleStepRunsClockwork_symbol :
    ([(Sym.brk, true, [Sym.shut2]), (.quiet, false, [.shut2]), (.shut2, false, [.shut2])].map fun x =>
      ({ bank2.line with active := true, wire := some ⟨.notice, x.2.2, x.2.1, true⟩ }.symbolTime 2 x.1).2) =
      [[.collision, .lineSettled], [], [.transmissionComplete]] := by decide +kernel

/-- A record of a release whose pulse runs. -/
def inPulse (r : Locker) : Locker := { r with cycle := .pulsing }

theorem witness_WarmRestartRevertsRecords_kept :
    (bank [held .holding]).locker? 1 = some (held .holding) ∧
    ¬ ((held .holding).cycle = .queued ∨ (held .holding).cycle = .pulsing) := by decide +kernel

theorem witness_WarmRestartRevertsRecords_loading :
    (bank [inPulse (held .loading)]).locker? 1 = some (inPulse (held .loading)) ∧
    (inPulse (held .loading)).cycle = .pulsing ∧ (inPulse (held .loading)).voidPending = false := by decide +kernel

theorem witness_WarmRestartRevertsRecords_void :
    (let r := { inPulse (held .loading) with voidPending := true }
     (bank [r]).locker? 1 = some r ∧ r.state = .loading ∧ r.voidPending = true) := by decide +kernel

/-- At the cold limit, and at the expiry minute of the hold checks. -/
theorem witness_WarmRestartRevertsRecords_releasing :
    (let r := { inPulse (held .releasing) with cold := 600 }
     (bank [r]).locker? 1 = some r ∧ r.order = some part ∧
      r.figures (bank [r]).time.classes = some meals ∧ meals.coldLimit ≤ r.cold) ∧
    DueAt 1110 ((part.collectBy + meals.grace) % 1440) ∧ ¬ DueAt 1109 ((part.collectBy + meals.grace) % 1440) := by
  decide +kernel

theorem witness_WarmRestartRevertsRecords_fault :
    (let r := { inPulse (held .fault) with faultReason := some .probe }
     (bank [r]).locker? 1 = some r ∧ r.cycle = .pulsing ∧ r.state = .fault) := by decide +kernel

/-- A busy bank: locker 1 heats, 2 is in its pulse, 3 is RETIRED and queued, and an entry is open for locker 5. -/
def busy : State :=
  { bank [{ held .holding with level := 6, trayPresent := true },
      { inPulse (held .loading) with order := some ⟨77, 0, 1100, 5, 205⟩ },
      { empty with state := .retired, retireReason := some .unknown, cycle := .queued }] with
    latch := ⟨[3], some ⟨2, 40⟩⟩
    book := [⟨512044, 0, 1100, 33, 505, 5, none, 0⟩]
    share := { Share.init with
      state := .sharing
      allowance := 15
      peers := [⟨5, 9, 160, 48, 192, 1, 0, false, 3, false⟩] }
    grant := { Grant.init with list := [1] }
    keypad := { Keypad.init with buffer := [1], entryTimer := some 9 }
    pending := [.flashPhase] }

/-- For `PowerLawsKept`. -/
theorem witness_power_laws : busy.PowerLaw ∧ busy.AllowanceLaw ∧ busy.TripLaw := by decide +kernel

/-- For `HeatLawKept`: and the heater of locker 1 is on. -/
theorem witness_heat_law : busy.HeatLaw ∧ busy.heaterOut 1 = true := by
  refine ⟨⟨by decide +kernel, ?_, by decide +kernel⟩, by decide +kernel⟩
  intro i hi
  obtain rfl : i = 1 := by simpa [busy] using hi
  exact (by decide : (6 : Nat) ≠ 0)

/-- For `RecordLawsKept` and `OrderPartStands`. -/
theorem witness_record_laws : busy.RecordLaw ∧ busy.OneHolder := by decide +kernel

/-- For `LatchLawKept`, and where a statement assumes it. -/
theorem witness_latch_law : busy.LatchLaw := by
  refine ⟨by decide +kernel, by decide +kernel, by decide +kernel, ?_⟩
  have h : (busy.indices.all fun i => match busy.locker? i with
      | some r => (r.cycle != .queued || busy.latch.queue.contains i) && (r.cycle != .pulsing || busy.latchSelect i)
      | none => true) = true := by decide +kernel
  intro i hi
  have := List.all_eq_true.mp h i hi
  cases hr : busy.locker? i <;> simp_all
  refine ⟨fun hc => ?_, fun hc => ?_⟩
  · exact this.1.resolve_left (fun h => h hc)
  · exact this.2.resolve_left (fun h => h hc)

/-- For `ListLawKept`. -/
theorem witness_list_law : busy.ListLaw := by decide +kernel

/-- For `SilentAndBookLawsKept`. -/
theorem witness_silent_and_book_laws : busy.SilentLaw ∧ busy.BookLaw := by decide +kernel

/-- For `PeerKeypadAndRangeLawsKept`. -/
theorem witness_peer_keypad_and_range_laws : busy.PeerLaw ∧ busy.KeypadLaw ∧ busy.RangeLaw := by decide +kernel

/-- The step of that bank answers a next state. -/
theorem witness_laws_step : (next? busy).isSome = true := by decide +kernel

theorem witness_StandingValuesAreKept :
    (∀ p, Instr.flashPhase ≠ .powerOnReset p) ∧ Instr.flashPhase ≠ .minuteTick ∧ Instr.flashPhase ≠ .classWriteEnd ∧
    Completes .flashPhase busy (after .flashPhase busy) ∧ busy.locker? 1 = busy.lockers[0]? :=
  ⟨fun _ => by simp, by decide, by decide, rfl, rfl⟩

theorem witness_HeatOnlyFallsBetweenRounds :
    Completes .flashPhase busy (after .flashPhase busy) ∧ Instr.flashPhase ≠ .grantRound ∧
    Instr.flashPhase ≠ .shareTick := ⟨rfl, by decide, by decide⟩

/-- A row by which a warm restart may come, and the same row with a processor that waits for none. -/
theorem witness_HeatOnlyFallsBetweenRounds_restart :
    { bank [] with cip := ⟨[], .restarting⟩ }.MayRestart .jabber ∧ ¬ (bank []).MayRestart .jabber ∧
    (∀ p, Instr.jabber ≠ .powerOnReset p) := by
  refine ⟨by decide, by decide, fun p => Instr.noConfusion⟩

theorem witness_OrderPartStands :
    busy.RecordLaw ∧ (busy.locker? 1).map Locker.order = some (some part) ∧
    Completes (.doorOpened 1) busy (after (.doorOpened 1) busy) := ⟨witness_record_laws.1, by decide +kernel, rfl⟩

/-! ### Witnesses: frames -/

theorem witness_ReceiverReadsBackFrame :
    (10 < 256 ∧ (∀ b ∈ [255], b < 256) ∧ bodyLength 10 = some [255].length) ∧
    ((∀ b ∈ List.replicate 12 255, b < 256) ∧ bodyLength 8 = some (List.replicate 12 255).length) := by decide

theorem witness_SentBodiesReadBack :
    (⟨255, 65535, 65535, 65535, 255, 65535, true, false, true⟩ : DemandFrame).d < 65536 ∧ 16777215 < 16777216 ∧
    (List.replicate 7 255).length = 7 ∧ ∀ b ∈ List.replicate 7 255, b < 256 := by decide

/-- The data symbols of a SHED frame, with its check. -/
def shedNibbles (src dest : Nat) : List Nibble :=
  ([10, src, dest, 3] ++ checkBytes [10, src, dest, 3]).flatMap fun n => [BitVec.ofNat 4 (n / 16), BitVec.ofNat 4 n]

/-- Sources 30, 31 and the own number 4; destinations 31, the own number and another. -/
theorem witness_FiltersJudgeFrames :
    [(30, 31), (31, 31), (4, 31), (30, 4), (30, 5)].map (fun x => checkedBytes (shedNibbles x.1 x.2)) =
      [(30, 31), (31, 31), (4, 31), (30, 4), (30, 5)].map (fun x => some [10, x.1, x.2, 3]) := by decide +kernel

/-- An odd number of data symbols, four bytes, an unknown kind, another length, and a bad check. -/
theorem witness_FiltersJudgeFrames_discarded :
    ((List.replicate 11 (0 : Nibble)).length % 2 = 1 ∧ (List.replicate 8 (0 : Nibble)).length < 10) ∧
    (11, 1) ∉ [(1, 11), (2, 7), (3, 6), (4, 7), (5, 4), (6, 7), (7, 10), (8, 12), (9, 3), (10, 1)] ∧
    (10, 2) ∉ [(1, 11), (2, 7), (3, 6), (4, 7), (5, 4), (6, 7), (7, 10), (8, 12), (9, 3), (10, 1)] ∧
    0 * 256 + 0 ≠ (checkOf [10, 1, 31, 3]).toNat ∧ (List.replicate 34 (0 : Nibble)).length = 34 := by decide +kernel

/-! ### Witnesses: records -/

theorem witness_ProbeSampleSmooths :
    (bank [{ empty with temp := 254 }]).locker? 1 = some { empty with temp := 254 } ∧
    { empty with temp := 254 }.swept = true ∧ { empty with temp := 254 }.seeded = true ∧ (255 : Nat) ≤ 255 := by
  decide +kernel

/-- The third fault sample of a QUEUED release, and a sample that makes ready. -/
theorem witness_ProbeSampleFaultsOrReadies :
    (let r := { held .releasing with cycle := .queued, faultRun := 2 }
     (bank [r]).locker? 1 = some r ∧ r.swept = true ∧ 2 ≤ r.faultRun ∧ r.state ≠ .blocked ∧ r.state ≠ .fault) ∧
    (let r := { held .holding with temp := 149 }
     (bank [r]).locker? 1 = some r ∧ r.ready = false ∧ r.figures (bank [r]).time.classes = some meals ∧
       meals.target ≤ (r.sampled 151).temp) := by decide +kernel

theorem witness_FirstSweepReadingSetsRecord : (bank [Locker.init]).locker? 1 = some Locker.init := by decide +kernel

theorem witness_RecomputationGivesLevel :
    (held .reserved).order = some part ∧ (held .reserved).figures (bank []).time.classes = some meals ∧
    (10 : Int) = ((part.collectBy : Int) - 1090) % 1440 ∧ ¬ DueAt 1090 part.collectBy ∧ DueAt 1100 part.collectBy ∧
    { held .holding with temp := 189 }.temp < 190 ∧ { held .holding with temp := 128, phase := .keep }.phase = .keep ∧
    (190 ≤ { held .holding with temp := 190 }.temp) := by decide +kernel

theorem witness_ReleasedOpeningOpensCycle :
    (bank [inPulse (held .releasing)]).locker? 1 = some (inPulse (held .releasing)) ∧
    (inPulse (held .releasing)).swept = true ∧ (inPulse (held .releasing)).doorOpen = false ∧
    ((inPulse (held .releasing)).cycle = .pulsing ∨ (inPulse (held .releasing)).cycle = .awaitOpen) := by decide +kernel

theorem witness_ForcedOpeningFaults :
    (bank [held .reserved]).locker? 1 = some (held .reserved) ∧ (held .reserved).cycle = .none ∧
    (held .reserved).doorOpen = false ∧ (held .reserved).state ≠ .blocked ∧
    { empty with state := .blocked, cycle := .queued }.state = .blocked := by decide +kernel

/-- The four closes of a LOADING record, and S at the target and below. -/
theorem witness_LoadCloseHoldsOrReverts :
    ([(true, false), (true, true), (false, false), (false, true)].all fun x =>
      let r := { opened (held .loading) x.1 with voidPending := x.2 }
      (bank [r]).locker? 1 == some r && r.doorOpen && r.cycle == .opened && r.order == some part &&
        r.figures (bank [r]).time.classes == some meals && r.trayPresent == x.1 && r.voidPending == x.2) = true ∧
    meals.target ≤ { held .loading with temp := 150 }.temp ∧ ¬ meals.target ≤ { held .loading with temp := 149 }.temp := by
  decide +kernel

/-- The two closes of a RELEASING record, with E at L and one below, and the hold age at 2 minutes and one below. -/
theorem witness_ReleaseCloseCollectsOrReturns :
    ([(false, 0, 0), (true, 600, 0), (true, 599, 120), (true, 599, 119)].all fun x =>
      let r := { opened (held .releasing) x.1 with cold := x.2.1, holdAge := x.2.2 }
      (bank [r]).locker? 1 == some r && r.swept && r.doorOpen && r.cycle == .opened && r.order == some part &&
        r.figures (bank [r]).time.classes == some meals && r.trayPresent == x.1) = true ∧
    meals.coldLimit = 600 ∧ meals.longest * 60 = 120 := by decide +kernel

theorem witness_OtherClosesClearOrRetire :
    ([(.retired, true), (.retired, false), (.fault, true), (.fault, false), (.blocked, true), (.vacant, true),
      (.vacant, false)].all fun (x : LockerState × Bool) =>
      let r := opened { empty with state := x.1 } x.2
      (bank [r]).locker? 1 == some r && r.swept && r.doorOpen && r.cycle == .opened && r.trayPresent == x.2 &&
        r.order == none) = true ∧
    { opened (held .fault) true with cycle := .none }.cycle = .none := by decide +kernel

/-- Faulted: VACANT, RESERVED, and HOLDING whose meal goes; only updated: an open door, a cycle, RETIRED. -/
theorem witness_TrayChangeBehindClosedDoorFaults :
    ([{ empty with trayPresent := true }, held .reserved, { held .holding with trayPresent := true }].all fun r =>
      (bank [r]).locker? 1 == some r && r.swept && !r.doorOpen && r.cycle == .none) = true ∧
    (opened (held .loading) true).doorOpen = true ∧ (inPulse (held .loading)).cycle ≠ .none ∧
    (held .retired).state = .retired := by decide +kernel

theorem witness_DoorTimersExpire :
    (let r := { opened (held .loading) false with ajar := some Config.ajarTime }
     (bank [r]).locker? 1 = some r ∧ r.ajar.isSome = true ∧ r.ajarGiven = false) ∧
    (let r := { held .releasing with cycle := .awaitOpen, attempts := 1 }
     (bank [r]).locker? 1 = some r ∧ r.cycle = .awaitOpen ∧ r.attempts ≠ 0) := by decide +kernel

theorem witness_PulseEndServesNextHead :
    twoReleases.latch.pulse = some ⟨1, 30000⟩ ∧ twoReleases.latch.queue.head? = some 2 := by decide +kernel

/-! ### Witnesses: ticks, lists, heat and shares -/

/-- At the last count before a limit, and in KEEP at the last second of its phase. -/
theorem witness_SecondTickCountsAndRetires :
    (let r := { held .holding with cold := 599, holdAge := 119 }
     (bank [r]).locker? 1 = some r ∧ r.figures (bank [r]).time.classes = some meals ∧ r.state = .holding) ∧
    (let r := { held .holding with phase := .keep, temp := 150, keepCount := 9 }
     (bank [r]).locker? 1 = some r ∧ r.phase = .keep ∧ r.keepCount + 1 = meals.keepOn) := by decide +kernel

/-- Collect-by 1100 at minute 1100, expiry 1110 at minute 1110, and one minute before each. -/
theorem witness_MinuteTickLapsesAndExpires :
    (held .reserved).order = some part ∧ (held .holding).figures (bank []).time.classes = some meals ∧
    DueAt 1100 part.collectBy ∧ ¬ DueAt 1099 part.collectBy ∧ DueAt 1110 ((part.collectBy + meals.grace) % 1440) ∧
    ¬ DueAt 1109 ((part.collectBy + meals.grace) % 1440) ∧
    (after .minuteTick { bank [] with time := { (bank []).time with clock := some 1099 } }).time.clock = some 1100 := by
  decide +kernel

theorem witness_TimeFrameSetsClock : ((1439 : Nat) ≤ 1439 ∧ (59 : Nat) ≤ 59) ∧ ¬ ((1440 : Nat) ≤ 1439 ∧ (59 : Nat) ≤ 59) := by
  decide

theorem witness_LampCommandsShowState :
    { bank [] with lamp := { LampChain.init Lamp.darkFrame with test := some 1 } }.lamp.test.isSome = true ∧
    (bank []).lamp.test = none ∧ 31 < 32 ∧
    (let s := { bank [] with lamp := { LampChain.init Lamp.darkFrame with cadence := 98 } }
     s.lamp.frame[32]? = some Lamp.off ∧ s.lamp.cadence = 3 * 32 + 2) := by decide +kernel

/-- A list with room and one that is full, and a frame whose order waits behind the head. -/
theorem witness_ListsTakeFrames :
    (bank []).line.inStep = true ∧ (bank []).line.listenOnly = false ∧
    (let l := { (bank []).line with orders := [⟨⟨4, .resign 1⟩, 0⟩, ⟨⟨5, .bid 100 2⟩, 3⟩] }
     l.orders = [⟨⟨4, .resign 1⟩, 0⟩] ++ ⟨⟨5, .bid 100 2⟩, 3⟩ :: [] ∧
      ∀ x ∈ [(⟨⟨4, .resign 1⟩, 0⟩ : Queued OrderFrame)] ++ [], x.frame.order ≠ 5) ∧
    { (bank []).line with inStep := false }.inStep = false := by decide +kernel

theorem witness_GrantRoundRebuildsList :
    rounds.RangeLaw ∧ rounds.time.feederTrip = false ∧ rounds.time.supplyLow = false ∧
    { rounds with time := { rounds.time with feederTrip := true } }.RangeLaw := by decide +kernel

/-- Every hypothesis gives the value of a variable; the figures are those of 4.9. -/
theorem witness_ShareTickSetsAllowance :
    wall.share.state = .sharing ∧ wall.usable = 450 ∧
    8 * wall.lockers.countP (fun r => decide (max 1 wall.grant.mask ≤ r.level)) = 96 ∧
    8 * wall.lockers.countP (fun r => decide (max 6 wall.grant.mask ≤ r.level)) = 32 := by decide +kernel

/-- The eighth unsent tick, and the eighth of JOINING. -/
theorem witness_ShareTickAgesJoinsAndAnnounces :
    (let s := { wall with share := { wall.share with sentMark := false, unsentRun := 7 } }
     8 = if s.share.sentMark then 0 else min 8 (s.share.unsentRun + 1)) ∧
    (let s := { wall with share := { wall.share with state := .joining, joinCount := 7 } }
     0 = if s.share.sentMark then 0 else min 8 (s.share.unsentRun + 1)) := by decide +kernel

/-- A duplicate of sequence 9, the next number from the same station, and the own number. -/
theorem witness_DemandEntersPeerTable :
    busy.PeerLaw ∧ (∃ p ∈ busy.share.peers, p.station = 5 ∧ p.lastSeq = 9) ∧
    (∀ p ∈ busy.share.peers, p.station = 5 → p.lastSeq ≠ 10) ∧ busy.own = 0 := by decide +kernel

theorem witness_PowerConditionsAndShed :
    (bank []).time.feederTrip = false ∧ (bank []).time.supplyLow = false ∧
    (after .feederTripAsserted (bank [])).time.feederTrip = true ∧
    (after .supplyLowAsserted (bank [])).time.supplyLow = true := by decide +kernel

/-! ### Witnesses: offers, bids and claims -/

theorem heldNowhere_of_records {s : State} {n : Nat} (h : ∀ r ∈ s.lockers, ∀ o ∈ r.order, o.order ≠ n) :
    s.HeldNowhere n :=
  fun _ r o hr ho => h r (State.locker?_eq_some hr).2.2.2 o (by simp [ho])

theorem fit_of_record {s : State} {i : Nat} {r : Locker} (h : s.locker? i = some r)
    (h' : r.swept = true ∧ r.state = .vacant ∧ r.cycle = .none ∧ r.faultRun = 0 ∧ ∀ e ∈ s.book, e.candidate ≠ i) :
    s.Fit i := ⟨r, h, h'⟩

theorem chosen_of_records {s : State} {i : Nat} (h : s.Fit i)
    (h' : ∀ j ∈ s.indices, s.tempAt j < s.tempAt i ∨ (s.tempAt j = s.tempAt i ∧ i ≤ j)) : s.Chosen i :=
  ⟨h, fun j ⟨_, hj, _⟩ => h' j (State.mem_indices.mpr ⟨(State.locker?_eq_some hj).1, (State.locker?_eq_some hj).2.1⟩)⟩

/-- A held order, and a new one that draws a bid: locker 1 is the choice among eight equal lockers. -/
theorem witness_OfferOpensEntryOrReasserts_held :
    (bank [held .reserved]).OneHolder ∧ (bank [held .reserved]).HeldAt 418203 1 (held .reserved) part := by
  decide +kernel

theorem witness_OfferOpensEntryOrReasserts_bid :
    (bank []).OneHolder ∧ (bank []).HeldNowhere 999999 ∧ (∀ e ∈ (bank []).book, e.order ≠ 999999) ∧
    (bank []).share.state ≠ .isolated ∧ (bank []).straps.commission = false ∧ (bank []).time.clock = some 1000 ∧
    ¬ DueAt 1000 280 ∧ (bank []).time.classes.getD 0 none = some meals ∧ (bank []).book.length < 8 ∧
    (bank []).Chosen 1 :=
  ⟨by decide +kernel, heldNowhere_of_records (by decide +kernel), by decide +kernel, by decide +kernel,
    by decide +kernel, by decide +kernel, by decide, by decide +kernel, by decide +kernel,
    chosen_of_records (fit_of_record (r := empty) (by decide +kernel) (by decide +kernel)) (by decide +kernel)⟩

/-- An offer whose order has an open entry, and one that is due. -/
theorem witness_OfferOpensEntryOrReasserts_passed :
    bidding.OneHolder ∧ bidding.HeldNowhere 512044 ∧ (∃ e ∈ bidding.book, e.order = 512044) ∧ DueAt 1000 281 :=
  ⟨by decide +kernel, heldNowhere_of_records (by decide +kernel), by decide +kernel, by decide⟩

/-- A stronger pair, an equal score with a lower station, and a weaker pair, against a RESERVED record at station 3. -/
theorem witness_RivalFramesAreMet :
    (let s := { bank [held .reserved] with straps := { zeroStraps with station := 3 } }
     s.OneHolder ∧ (∀ e ∈ s.book, e.order ≠ 418203) ∧ s.HeldAt 418203 1 (held .reserved) part ∧
      part.score < 506 ∧ (part.score = 505 ∧ 2 < s.own) ∧ ¬ 4 < s.own) ∧
    (∃ e ∈ bidding.book, e.order = 512044) ∧ LockerState.Past (held .loading).state := by decide +kernel

/-- Against no rival, an equal one of a higher station, and one that beats; with the candidate still fit. -/
theorem witness_WindowEndJudgesEntry :
    bidding.BookLaw ∧ (⟨512044, 0, 1100, 33, 505, 6, none, 0⟩ : BookEntry) ∈ bidding.book ∧
    bidding.time.clock = some 1000 ∧ ¬ DueAt 1000 1100 ∧ bidding.own = 3 ∧ bidding.locker? 6 = some empty ∧
    { bidding with book := [] }.Fit 6 ∧ ¬ (530 < 505 ∨ (530 = 505 ∧ bidding.own < 7)) :=
  ⟨by decide +kernel, by decide +kernel, by decide +kernel, by decide, by decide +kernel, by decide +kernel,
    fit_of_record (r := empty) (by decide +kernel) (by decide +kernel), by decide +kernel⟩

/-- The candidate is fit no more, and the choice falls on locker 1. -/
theorem witness_WindowEndJudgesEntry_choice :
    (let u := { bank (List.replicate 5 empty ++ [{ empty with faultRun := 1 }]) with book := [] }
     u.Chosen 1 ∧ u.locker? 1 = some empty) ∧
    ((bank (List.replicate 5 empty ++ [{ empty with faultRun := 1 }])).locker? 6).map Locker.faultRun = some 1 :=
  ⟨⟨chosen_of_records (fit_of_record (r := empty) (by decide +kernel) (by decide +kernel)) (by decide +kernel),
    by decide +kernel⟩, by decide +kernel⟩

/-! ### Witnesses: the line -/

/-- The notice of 6.10 at its threshold. -/
theorem witness_AttemptPutsNextFrameOnWire :
    (bank2.line.replies = [] ∧ bank2.line.orders = [] ∧ bank2.line.demand = none ∧
      bank2.line.notices = ⟨⟨3, .loaded, .none, 1, false⟩, 0⟩ :: []) ∧
    bank2.line.inStep = true ∧ bank2.line.listenOnly = false ∧ bank2.line.wire = none ∧ bank2.line.active = false ∧
    24 + 2 * bank2.straps.station.toNat + bank2.line.extraWait = bank2.line.accessCount := by decide +kernel

/-- An attempt whose next symbol is OPEN-1, and one whose BREAK goes out. -/
theorem witness_AttemptPutsNextFrameOnWire_driven :
    (after .attemptStart bank2).line.wire.map (fun a => (a.breaking, a.symbols.head?)) = some (false, some .open1) ∧
    { bank2.line with wire := some ⟨.notice, [.shut2], true, true⟩ }.wire.map Attempt.breaking = some true := by
  decide +kernel

/-- A line with this attempt on the wire. -/
def onWire (list : ListKind) (attempts : Nat) : State :=
  { bank [] with
    line := { (bank []).line with
      wire := some ⟨list, [.shut2], false, true⟩
      replies := [⟨⟨20, 8, .accept, .none, 0, 0, [0, 0, 0, 0, 0, 0, 0]⟩, attempts⟩]
      orders := [⟨⟨5, .bid 100 2⟩, attempts⟩]
      demand := some ⟨⟨1, 0, 0, 64, 1, 0, false, true, false⟩, attempts⟩
      notices := [⟨⟨3, .loaded, .none, 1, false⟩, attempts⟩] } }

theorem witness_CompletionRemovesSentFrame :
    ([ListKind.reply, .order, .demand, .notice].all fun k =>
      (onWire k 0).line.wire == some ⟨k, [.shut2], false, true⟩) = true ∧
    (let s := { onWire .reply 0 with cip := ⟨[], .restarting⟩ }
     s.cip.proc = .restarting ∧ s.line.replies.head?.map (fun q => decide q.frame.Final) = some true) := by
  decide +kernel

/-- After a loss of step that met a DEMAND read back whole. -/
theorem witness_CompletionRemovesSentFrame_after_fall :
    (lostDemand []).line.wire = none ∧ (lostDemand []).line.demandSent = true ∧ (lostDemand []).line.inStep = false := by
  decide +kernel

/-- After a loss of step that cut a DEMAND off. -/
theorem witness_CompletionRemovesSentFrame_cut :
    (lostDemand [.shut2]).line.wire = none ∧ (lostDemand [.shut2]).line.demandSent = false := by decide +kernel

/-- A BREAK that settles no monitor. -/
theorem witness_CollisionDrawsBackoffAndRetries_unsettled :
    { bank2.line with wire := some ⟨.notice, [.shut2], true, false⟩ }.wire.map Attempt.settles = some false := by decide

/-- At the seventh attempt, which is retried, and at the eighth. -/
theorem witness_CollisionDrawsBackoffAndRetries :
    ([ListKind.reply, .order, .demand, .notice].all fun k =>
      (onWire k 6).line.wire == some ⟨k, [.shut2], false, true⟩ && (onWire k 7).line.wire == some ⟨k, [.shut2], false, true⟩ &&
      (onWire k 6).line.orders.map Queued.attempts == [6] && (onWire k 7).line.orders.map Queued.attempts == [7]) =
      true ∧ 6 + 1 < 8 ∧ 8 ≤ 7 + 1 := by decide +kernel

theorem witness_MonitorAndStepLockFollowLine :
    (bank []).line.active = false ∧ (after .lineActive (bank [])).line.active = true ∧
    (let s := { State.reset with line := { State.reset.line with inStepCount := 32 } }
     s.line.inStep = false ∧ s.line.lineFault = false ∧ 32 ≤ s.line.inStepCount) ∧
    { bank2 with line := { bank2.line with rx := .frame [1] false false } }.line.rx = .frame [1] false false := by
  decide +kernel

/-- In step and not; a final reply in the list of a RESTARTING processor; a 399th symbol; a clash. -/
theorem witness_LossAndClashSilenceStation :
    (bank []).line.inStep = true ∧ ¬ ((bank []).cip.proc = .restarting) ∧ State.reset.line.inStep = false ∧
    (let s := { onWire .order 0 with cip := ⟨[], .restarting⟩ }
     s.cip.proc = .restarting ∧ ∃ q ∈ s.line.replies, q.frame.Final) ∧
    (let s := { bank [] with line := { (bank []).line with active := true, activityCount := 399 } }
     s.line.active = true ∧ s.line.activityCount = 399) ∧
    ((bank []).line.listenOnly = false ∧ (bank []).line.wire = none) ∧
    (after .addressClash (bank [])).line.listenOnly = true := by decide +kernel

/-! ### Witnesses: commands and replies -/

/-- A VOID that supersedes a waiting LOAD of a held order. -/
theorem witness_CommandArrivalJoinsOrAnswers :
    (let s := asked 1 orderOps (bank [held .reserved])
     s.OneHolder ∧ s.line.listenOnly = false ∧ (⟨20, 0, 2, orderOps⟩ : CommandFrame).order = 418203 ∧
      s.HeldAt 418203 1 (held .reserved) part ∧ s.cip.inbox.map CommandFrame.order = [418203]) := by decide +kernel

/-- A listen-only station. -/
theorem witness_CommandArrivalJoinsOrAnswers_listenOnly :
    (after .addressClash (bank [])).line.listenOnly = true := by decide +kernel

/-- No record holds order 0, so a COMMAND for it finds none. -/
theorem witness_CommandArrivalJoinsOrAnswers_nowhere :
    (bank [held .reserved]).OneHolder ∧ (bank [held .reserved]).HeldNowhere 0 :=
  ⟨by decide +kernel, heldNowhere_of_records (by decide +kernel)⟩

theorem latchLaw_of_idle {s : State} (hq : s.latch.queue = [])
    (h : ∀ r ∈ s.lockers, r.cycle ≠ .queued ∧ r.cycle ≠ .pulsing) : s.LatchLaw := by
  refine ⟨by simp [hq], by simp [hq], fun _ _ => hq, fun i hi => ?_⟩
  obtain ⟨r, hr⟩ := State.locker?_of_mem_indices hi
  have := h r (State.locker?_eq_some hr).2.2.2
  simp [hr, this.1, this.2]

theorem witness_LoadOpensReservedLocker :
    (let s := asked 1 orderOps (bank [held .reserved])
     s.OneHolder ∧ s.LatchLaw ∧ s.Takes ⟨20, 0, 1, orderOps⟩ [] ∧ s.straps.commission = false ∧
      s.HeldAt 418203 1 (held .reserved) part ∧ (held .reserved).doorOpen = false) :=
  ⟨by decide +kernel, latchLaw_of_idle (by decide +kernel) (by decide +kernel), by decide +kernel,
    by decide +kernel, by decide +kernel, by decide +kernel⟩

/-- An order that is held nowhere. -/
theorem witness_LoadOpensReservedLocker_unknown :
    (asked 1 orderOps (bank [])).HeldNowhere 418203 ∧ (asked 1 orderOps (bank [])).Takes ⟨20, 0, 1, orderOps⟩ [] :=
  ⟨heldNowhere_of_records (by decide +kernel), by decide +kernel⟩

/-- Every state that holds an order, at the same number. -/
theorem witness_VoidCancelsOrder_held :
    ([LockerState.reserved, .loading, .holding, .releasing, .retired, .fault].all fun x =>
      let s := asked 2 orderOps (bank [held x])
      decide (s.OneHolder ∧ s.Takes ⟨20, 0, 2, orderOps⟩ [] ∧ s.straps.commission = false ∧
        s.HeldAt 418203 1 (held x) part)) = true := by decide +kernel

/-- An order with an open entry, and one that is unknown. -/
theorem witness_VoidCancelsOrder_entry :
    (let s := { asked 2 orderOps (bank []) with book := [⟨418203, 0, 1100, 27, 505, 6, none, 0⟩] }
     s.Takes ⟨20, 0, 2, orderOps⟩ [] ∧ s.HeldNowhere 418203 ∧ ∃ e ∈ s.book, e.order = 418203) ∧
    ∀ e ∈ (asked 2 orderOps (bank [])).book, e.order ≠ 418203 :=
  ⟨⟨by decide +kernel, heldNowhere_of_records (by decide +kernel), by decide +kernel⟩, by decide +kernel⟩

/-- COMMISSION; operands 0 and N + 1; a record that is not swept; QUERY above N in COMMISSION. -/
theorem witness_VerbsAreScreened :
    (let s := asked 1 orderOps { bank [] with straps := { zeroStraps with commission := true } }
     s.Takes ⟨20, 0, 1, orderOps⟩ [] ∧ s.straps.commission = true) ∧
    ((bank []).locker? 0 = none ∧ (bank []).locker? 9 = none ∧ (bank []).straps.commission = false) ∧
    (let s := asked 4 (lockerOps 1) (bank [Locker.init])
     s.Takes ⟨20, 0, 4, lockerOps 1⟩ [] ∧ s.locker? 1 = some Locker.init ∧ Locker.init.swept = false) ∧
    (let s := asked 6 (lockerOps 9) { bank [] with straps := { zeroStraps with commission := true } }
     s.Takes ⟨20, 0, 6, lockerOps 9⟩ [] ∧ s.locker? 9 = none) := by
  decide +kernel

/-- Each verb on a record it takes and on one it refuses, at locker 8 = N. -/
theorem witness_LockerVerbsMoveRecord :
    ([(3, LockerState.retired), (3, .holding), (4, .vacant), (4, .retired), (5, .blocked), (5, .vacant)].all fun x =>
      let s := asked x.1 (lockerOps 8) (bank (List.replicate 7 empty ++ [{ empty with state := x.2 }]))
      decide (s.Takes ⟨20, 0, x.1, lockerOps 8⟩ [] ∧ s.straps.commission = false ∧
        s.locker? 8 = some { empty with state := x.2 })) = true ∧
    (asked 3 (lockerOps 8) (bank [])).LatchLaw :=
  ⟨by decide +kernel, latchLaw_of_idle (by decide +kernel) (by decide +kernel)⟩

/-- QUERY of locker 8 = N and of the bank, LAMPTEST at 1, 30, 0 and 31, and the verb bytes 0 and 10. -/
theorem witness_QueriesAndLampTestAnswer :
    ([(6, 8), (6, 0), (7, 1), (7, 30), (7, 0), (7, 31), (0, 1), (10, 1)].all fun x =>
      decide ((asked x.1 (lockerOps x.2) (bank [])).Takes ⟨20, 0, x.1, lockerOps x.2⟩ [])) = true ∧
    (asked 6 (lockerOps 8) (bank [])).locker? 8 = some empty := by decide +kernel

/-- RESTART to the own number and to 31, CLASS in and outside COMMISSION, and a write in progress. -/
theorem witness_RestartAndClassHoldProcessor :
    (asked 8 (lockerOps 0) (bank [])).Takes ⟨20, 0, 8, lockerOps 0⟩ [] ∧
    { asked 8 (lockerOps 0) (bank []) with cip := ⟨[⟨20, 31, 8, lockerOps 0⟩], .free⟩ }.Takes
      ⟨20, 31, 8, lockerOps 0⟩ [] ∧
    (let s := asked 9 classOps { bank [] with straps := { zeroStraps with commission := true } }
     s.Takes ⟨20, 0, 9, classOps⟩ [] ∧ s.straps.commission = true ∧
      ∃ w, (after .classWrite s).cip.proc = .writing w) ∧
    (asked 9 classOps (bank [])).straps.commission = false :=
  ⟨by decide +kernel, by decide +kernel,
    ⟨by decide +kernel, by decide +kernel, ⟨7, meals, 20, 0, 0⟩, by decide +kernel⟩, by decide +kernel⟩

/-! ### Witnesses: keypad -/

/-- UP, with and without a lockout, at 7 and 8 digits. -/
theorem witness_KeysAndTimersMoveKeypad :
    Keypad.init.scan = .up ∧ Keypad.init.lockout = none ∧
    { Keypad.init with lockout := some 5 }.lockout.isSome = true ∧ (List.replicate 7 9).length < 8 ∧
    ¬ (List.replicate 8 9).length < 8 ∧ { Keypad.init with beeper := some ⟨.alert, 59999⟩ }.beeper = some ⟨.alert, 59999⟩ ∧
    { Keypad.init with entryTimer := some 0 }.entryTimer.isSome = true ∧
    { Keypad.init with strikes := [7, 5] }.strikes = 7 :: [5] := by decide

/-- A bank with these digits in the buffer. -/
def entered (ds : List Nat) (r : Locker) : State := { bank [r] with keypad := { Keypad.init with buffer := ds } }

/-- Every state that holds an order, with its own digits. -/
theorem witness_EnterJudgesEntry_match :
    ([LockerState.reserved, .loading, .holding, .releasing, .retired, .fault].all fun x =>
      let s := entered [4, 1, 8, 2, 0, 3, 2, 7] (held x)
      decide (s.keypad.scan = .up ∧ s.OneHolder ∧ s.keypad.lockout = none ∧ s.keypad.overlong = false ∧
        s.keypad.buffer = [4, 1, 8, 2, 0, 3] ++ [2, 7] ∧
        s.HeldAt ([4, 1, 8, 2, 0, 3].foldl (fun n d => n * 10 + d) 0) 1 (held x) part ∧
        part.digits = 2 * 10 + 7)) = true ∧
    (held .holding).doorOpen = false ∧ (entered [4, 1, 8, 2, 0, 3, 2, 7] (held .holding)).LatchLaw :=
  ⟨by decide +kernel, by decide, latchLaw_of_idle (by decide +kernel) (by decide +kernel)⟩

/-- Wrong digits: no record with the order number has them. One digit and two are refused too, and an empty entry is
not; the third strike is the one after two. -/
theorem witness_EnterJudgesEntry_refused :
    (∀ i r o, (entered [4, 1, 8, 2, 0, 3, 2, 8] (held .holding)).HeldAt
      ([4, 1, 8, 2, 0, 3].foldl (fun n d => n * 10 + d) 0) i r o → o.digits ≠ 2 * 10 + 8) ∧
    (entered [1] empty).keypad.buffer.length = 1 ∧ (entered [1, 2] empty).keypad.buffer.length = 2 ∧
    (entered [] empty).keypad.buffer = [] ∧ (entered [] empty).OneHolder := by
  refine ⟨fun i r o h => ?_, by decide +kernel⟩
  have hall : ∀ r ∈ (entered [4, 1, 8, 2, 0, 3, 2, 8] (held .holding)).lockers, ∀ o ∈ r.order, o.digits ≠ 2 * 10 + 8 := by
    decide +kernel
  exact hall r (State.locker?_eq_some h.1).2.2.2 o (by simp [h.2.1])

end Sys2Proof.Tests
end

section
/-! PROOFS. What a row can make of one locker record: the laws of a record as one condition, the relation `Follows` that
every row keeps, and the fields that a recomputation, a count or a timer leaves alone. -/

namespace Sys2Proof.Machine

/-- What holds of a record between steps, as one condition. -/
abbrev Locker.Fits (r : Locker) : Prop := r.OrderFits ∧ r.CycleFits ∧ r.FieldsFit

/-- The fields on which the laws of a record rest stand as they did. -/
structure Locker.Alike (r q : Locker) : Prop where
  swept : q.swept = r.swept
  state : q.state = r.state
  order : q.order = r.order
  void : q.voidPending = r.voidPending
  retire : q.retireReason = r.retireReason
  fault : q.faultReason = r.faultReason
  cycle : q.cycle = r.cycle
  attempts : q.attempts = r.attempts
  wait : q.openWait.isSome = r.openWait.isSome
  door : q.doorOpen = r.doorOpen

/-- What a row may make of a record: it stays swept, it keeps the laws of a record, and its order part stands unless it
enters VACANT (R3, R6). -/
structure Locker.Follows (r q : Locker) : Prop where
  swept : r.swept = true → q.swept = true
  fits : r.Fits → q.Fits
  order : r.Fits → q.order = r.order ∨ (q.order = none ∧ q.state = .vacant)

theorem Locker.Alike.refl (r : Locker) : r.Alike r := by constructor <;> rfl

theorem Locker.Alike.trans {r q p : Locker} (h : r.Alike q) (h' : q.Alike p) : r.Alike p := by
  obtain ⟨h1, h2, h3, h4, h5, h6, h7, h8, h9, h10⟩ := h
  obtain ⟨k1, k2, k3, k4, k5, k6, k7, k8, k9, k10⟩ := h'
  constructor <;> simp only [*]

theorem Locker.Alike.fits_iff {r q : Locker} (h : r.Alike q) : q.Fits ↔ r.Fits := by
  obtain ⟨h1, h2, h3, h4, h5, h6, h7, h8, h9, h10⟩ := h
  simp only [Locker.Fits, Locker.OrderFits, Locker.CycleFits, Locker.FieldsFit, h1, h2, h3, h4, h5, h6, h7, h8, h9, h10]

theorem Locker.Follows.alike {r q p : Locker} (h : r.Follows q) (h' : q.Alike p) : r.Follows p where
  swept hs := by rw [h'.swept]; exact h.swept hs
  fits hr := h'.fits_iff.mpr (h.fits hr)
  order hr := by rw [h'.order, h'.state]; exact h.order hr

theorem Locker.Follows.refl (r : Locker) : r.Follows r := ⟨id, id, fun _ => .inl rfl⟩

theorem Locker.Alike.follows {r q : Locker} (h : r.Alike q) : r.Follows q := (Locker.Follows.refl r).alike h

/-- One change after another that keeps the order part. -/
theorem Locker.Follows.trans {r p q : Locker} (h : r.Follows p) (ho : r.Fits → p.order = r.order) (h' : p.Follows q) :
    r.Follows q where
  swept hs := h'.swept (h.swept hs)
  fits hr := h'.fits (h.fits hr)
  order hr := by rw [← ho hr]; exact h'.order (h.fits hr)

theorem Locker.Alike.follows_of {r p q : Locker} (h : r.Alike p) (h' : p.Follows q) : r.Follows q :=
  h.follows.trans (fun _ => h.order) h'

/-- R49, R52: a recomputation. -/
theorem Locker.alike_recomputed (r : Locker) (classes : List (Option ClassEntry)) (clock : Option Nat)
    (commission : Bool) : r.Alike (r.recomputed classes clock commission) := by
  constructor <;> simp

/-- R31, R32: a sample. -/
theorem Locker.alike_sampled (r : Locker) (raw : Nat) : r.Alike (r.sampled raw) := by
  unfold Locker.sampled; split <;> constructor <;> rfl

/-- R36: the counts of a second tick. -/
theorem Locker.alike_counted (r : Locker) (classes : List (Option ClassEntry)) : r.Alike (r.counted classes) := by
  unfold Locker.counted
  repeat' split
  all_goals constructor <;> rfl

/-- R54: the keep cycle of a second tick. -/
theorem Locker.alike_keepTick (r : Locker) (classes : List (Option ClassEntry)) : r.Alike (r.keepTick classes) := by
  unfold Locker.keepTick
  repeat' split
  all_goals constructor <;> rfl

/-- R12, R16, R170: a symbol time at the timers of a record. -/
theorem Locker.alike_tick (r : Locker) (p : LockerPins) : r.Alike (r.tick p) := by
  constructor <;> simp [Locker.tick, bump]

/-! ### What the rules make of a record -/

/-- R17: the door cycle ends. -/
def Locker.ended (r : Locker) : Locker := { r with cycle := .none, attempts := 0 }

/-- R10: a record as a door cycle begins, before a pulse is taken. -/
def Locker.begun (r : Locker) : Locker :=
  { r with attempts := 0, cycle := if r.doorOpen then .opened else .queued }

/-- R45, R118, R152: a RESERVED record enters VACANT. -/
theorem Locker.follows_lapsed {r : Locker} (h : r.state = .reserved) : r.Follows r.toVacant := by
  simp only [Locker.toVacant]
  constructor <;> grind

/-- R8: a fault may strike any swept record. -/
theorem Locker.follows_toFault {r : Locker} (why : FaultReason) (hs : r.swept = true) : r.Follows (r.toFault why) := by
  simp only [Locker.toFault]
  split <;> constructor <;> grind

/-- R15: a fault that ends a door cycle whose open wait does not run. -/
theorem Locker.follows_toFault_ended {r : Locker} (why : FaultReason) (hs : r.swept = true) (hc : r.cycle ≠ .awaitOpen) :
    r.Follows (r.ended.toFault why) := by
  by_cases hf : r.state = .fault <;> simp only [Locker.toFault, Locker.ended, hf, if_true, if_false] <;>
    constructor <;> grind

/-- R12: the fault of an open wait that has expired twice. -/
theorem Locker.follows_toFault_latch {r : Locker} (hc : r.cycle = .awaitOpen) :
    r.Follows ({ r with attempts := 0, cycle := .none, openWait := none }.toFault .latch) := by
  simp only [Locker.toFault]
  split <;> constructor <;> grind

/-- R12: the retry of an open wait that has expired. -/
theorem Locker.follows_retry {r : Locker} (hc : r.cycle = .awaitOpen) :
    r.Follows { r with attempts := 1, cycle := .queued, openWait := none } := by
  constructor <;> grind

/-- R11: the end of a pulse. -/
theorem Locker.follows_pulseEnd (r : Locker) : r.Follows r.pulseEnd := by
  simp only [Locker.pulseEnd]
  split <;> constructor <;> grind

/-- R15: no record with a closed door has an OPEN cycle, so an opening in OPEN does not come. -/
theorem Locker.follows_openedNow {r : Locker} (hc : r.cycle = .opened) (hd : r.doorOpen = false) :
    r.Follows r.openedNow := by
  simp only [Locker.openedNow]
  constructor <;> grind

/-- R13: an opening completes a release. -/
theorem Locker.follows_released {r : Locker} (hc : r.cycle = .pulsing ∨ r.cycle = .awaitOpen) :
    r.Follows { r.openedNow with cycle := .opened, openWait := none } := by
  simp only [Locker.openedNow]
  constructor <;> grind

/-- R9: an opening of a BLOCKED locker. -/
theorem Locker.follows_maintenance {r : Locker} (hb : r.state = .blocked) (hc : r.cycle = .none ∨ r.cycle = .queued) :
    r.Follows { r.openedNow with cycle := .opened } := by
  simp only [Locker.openedNow]
  constructor <;> grind

/-- R14: a forced opening. -/
theorem Locker.follows_forced {r : Locker} (hs : r.swept = true) (hc : r.cycle = .none ∨ r.cycle = .queued) :
    r.Follows (r.openedNow.ended.toFault .forced) := by
  by_cases hf : r.state = .fault <;> simp only [Locker.toFault, Locker.openedNow, Locker.ended, hf, if_true, if_false] <;>
    constructor <;> grind

/-- R17: a closed door with its door cycle as it stands. -/
def Locker.shut (r : Locker) : Locker := { r with doorOpen := false, doorSettle := none, ajar := none }

/-- R17: a close that ends no cycle. -/
theorem Locker.follows_shut {r : Locker} (hs : r.swept = true) (hc : r.cycle ≠ .opened) : r.Follows r.shut := by
  simp only [Locker.shut]
  constructor <;> grind

/-- R17, R23: a close that ends the cycle and keeps the state. -/
theorem Locker.follows_shut_ended {r : Locker} (hs : r.swept = true) (hc : r.cycle = .opened)
    (hl : r.state ≠ .loading ∧ r.state ≠ .releasing) : r.Follows r.shut.ended := by
  simp only [Locker.shut, Locker.ended]
  constructor <;> grind

/-- R6, R19, R20, R22: a close that ends the cycle in VACANT. -/
theorem Locker.follows_shut_toVacant {r : Locker} (hs : r.swept = true) (hc : r.cycle = .opened) :
    r.Follows r.shut.toVacant.ended := by
  simp only [Locker.shut, Locker.ended, Locker.toVacant]
  constructor <;> grind

/-- R7, R17, R18: a close that ends the cycle in RETIRED. -/
theorem Locker.follows_shut_toRetired {r : Locker} (why : RetireReason) (hs : r.swept = true) (hc : r.cycle = .opened) :
    r.Follows (r.shut.toRetired why).ended := by
  simp only [Locker.shut, Locker.ended, Locker.toRetired]
  constructor <;> grind

/-- R19, R21: a close that ends the cycle of a LOADING or RELEASING record in the state it came from. -/
theorem Locker.follows_shut_back {r : Locker} {x : LockerState} (hs : r.swept = true) (hc : r.cycle = .opened)
    (hr : r.state = .loading ∧ r.voidPending = false ∨ r.state = .releasing) (hx : x = .reserved ∨ x = .holding) :
    r.Follows { r.shut with state := x }.ended := by
  simp only [Locker.shut, Locker.ended]
  constructor <;> grind

/-- R10, R151: a LOAD opens a RESERVED record. -/
theorem Locker.follows_loading {r : Locker} (h : r.state = .reserved) :
    r.Follows ({ r with state := .loading } : Locker).begun := by
  simp only [Locker.begun]
  constructor <;> grind

/-- R10, R25: a good entry opens a HOLDING record. -/
theorem Locker.follows_releasing {r : Locker} (h : r.state = .holding) :
    r.Follows ({ r with state := .releasing } : Locker).begun := by
  simp only [Locker.begun]
  constructor <;> grind

/-- R10, R153: a CLEAR opens a RETIRED, FAULT or BLOCKED record without a cycle. -/
theorem Locker.follows_clearing {r : Locker} (hs : r.swept = true)
    (h : r.state = .retired ∨ r.state = .fault ∨ r.state = .blocked) (hc : r.cycle = .none) : r.Follows r.begun := by
  simp only [Locker.begun]
  constructor <;> grind

/-- R9, R154: a VACANT record becomes BLOCKED. -/
theorem Locker.follows_blocked {r : Locker} (hs : r.swept = true) (h : r.state = .vacant) :
    r.Follows { r with state := .blocked } := by
  constructor <;> grind

/-- R6, R15, R154: a BLOCKED record becomes VACANT. -/
theorem Locker.follows_unblocked {r : Locker} (h : r.state = .blocked) : r.Follows r.unblocked := by
  simp only [Locker.unblocked, Locker.toVacant]
  constructor <;> grind

/-- R152: a VOID of a LOADING record is left pending. -/
theorem Locker.follows_voidPending {r : Locker} (h : r.state = .loading) : r.Follows { r with voidPending := true } := by
  constructor <;> grind

/-- R27, R172: the first reading of a record that is not swept, with no tray. -/
theorem Locker.follows_firstRead {r : Locker} (hs : r.swept = false) (door tray : Bool) :
    r.Follows (r.firstRead door tray) := by
  simp only [Locker.firstRead]
  split <;> constructor <;> grind

/-- R27, R172: the first reading of a record that is not swept, with a tray in it. -/
theorem Locker.follows_firstRead_retired {r : Locker} (hs : r.swept = false) (door tray : Bool) :
    r.Follows ((r.firstRead door tray).toRetired .unknown) := by
  simp only [Locker.firstRead, Locker.toRetired]
  split <;> constructor <;> grind

/-- R28: a QUEUED or PULSING record at a warm restart, as it loses its cycle. -/
theorem Locker.follows_ended {r : Locker} (hc : r.cycle = .queued ∨ r.cycle = .pulsing)
    (hl : r.state ≠ .loading ∧ r.state ≠ .releasing) : r.Follows r.ended := by
  simp only [Locker.ended]
  constructor <;> grind

/-- R6, R28: such a record with void pending. -/
theorem Locker.follows_ended_toVacant {r : Locker} (hc : r.cycle = .queued ∨ r.cycle = .pulsing)
    (hl : r.state = .loading) : r.Follows r.ended.toVacant := by
  simp only [Locker.ended, Locker.toVacant]
  constructor <;> grind

/-- R28: such a record that returns to the state it came from. -/
theorem Locker.follows_ended_back {r : Locker} {x : LockerState} (hc : r.cycle = .queued ∨ r.cycle = .pulsing)
    (hr : r.state = .loading ∧ r.voidPending = false ∨ r.state = .releasing) (hx : x = .reserved ∨ x = .holding) :
    r.Follows { r.ended with state := x } := by
  simp only [Locker.ended]
  constructor <;> grind

/-- R7, R21, R28: such a record that the hold checks retire. -/
theorem Locker.follows_ended_toRetired {r : Locker} (why : RetireReason) (hc : r.cycle = .queued ∨ r.cycle = .pulsing)
    (hr : r.state = .releasing) : r.Follows (r.ended.toRetired why) := by
  simp only [Locker.ended, Locker.toRetired]
  constructor <;> grind

end Sys2Proof.Machine
end

section
namespace Sys2Proof.Machine

/-! ### Records of a state that follow those of another -/

/-- R11, R165: a QUEUED door cycle that moves to PULSING. -/
theorem Locker.Follows.pulsing {r q : Locker} (h : r.Follows q) (hq : q.cycle = .queued) :
    r.Follows { q with cycle := .pulsing } := by
  obtain ⟨hs, hf, ho⟩ := h
  refine ⟨hs, fun hr => ?_, ho⟩
  have := hf hr
  grind

/-- Every record of the second state follows that of the first. -/
def State.RecordsFollow (s t : State) : Prop :=
  t.count = s.count ∧ ∀ j r, s.locker? j = some r → ∃ q, t.locker? j = some q ∧ r.Follows q

theorem State.recordsFollow_of_lockers {s t : State} (h : t.lockers = s.lockers) : s.RecordsFollow t :=
  ⟨by simp [State.count, h], fun j r hj => ⟨r, by simpa [State.locker?, h] using hj, .refl r⟩⟩

/-- What follows does not look past the Locker Table. -/
theorem State.RecordsFollow.of_lockers {s t u : State} (h : s.RecordsFollow t) (hu : u.lockers = t.lockers) :
    s.RecordsFollow u :=
  ⟨by rw [← h.1]; simp [State.count, hu], fun j r hj => by simpa [State.locker?, hu] using h.2 j r hj⟩

/-- A row that changes the record of one locker. -/
theorem State.recordsFollow_of_one {s t : State} {i : Nat} (hc : t.count = s.count)
    (ho : ∀ j, j ≠ i → t.locker? j = s.locker? j)
    (hi : ∀ r, s.locker? i = some r → ∃ q, t.locker? i = some q ∧ r.Follows q) : s.RecordsFollow t := by
  refine ⟨hc, fun j r hj => ?_⟩
  by_cases h : j = i
  · subst h; exact hi r hj
  · exact ⟨r, by rw [ho j h, hj], .refl r⟩

/-- A row that makes q of the record r of one locker. -/
theorem State.recordsFollow_of_record {s t : State} {i : Nat} {r q : Locker} (hr : s.locker? i = some r)
    (hc : t.count = s.count) (ho : ∀ j, j ≠ i → t.locker? j = s.locker? j) (hq : t.locker? i = some q)
    (hf : r.Follows q) : s.RecordsFollow t := by
  refine State.recordsFollow_of_one hc ho fun r' hr' => ⟨q, hq, ?_⟩
  obtain rfl : r = r' := by simpa [hr] using hr'
  exact hf

theorem State.RecordsFollow.recompute {s t : State} (h : s.RecordsFollow t) (i : Nat) :
    s.RecordsFollow (t.recompute i) := by
  refine ⟨by simpa using h.1, fun j r hj => ?_⟩
  obtain ⟨q, hq, hf⟩ := h.2 j r hj
  rw [State.recompute_locker?, hq]
  split
  · exact ⟨_, rfl, hf.alike (q.alike_recomputed ..)⟩
  · exact ⟨q, rfl, hf⟩

theorem State.RecordsFollow.recomputeAll {s t : State} (h : s.RecordsFollow t) : s.RecordsFollow t.recomputeAll := by
  refine ⟨by simpa using h.1, fun j r hj => ?_⟩
  obtain ⟨q, hq, hf⟩ := h.2 j r hj
  rw [State.recomputeAll_locker?, hq]
  exact ⟨_, rfl, hf.alike (q.alike_recomputed ..)⟩

theorem State.RecordsFollow.takeLatch {s t : State} (h : s.RecordsFollow t) : s.RecordsFollow t.takeLatch := by
  refine ⟨by simpa using h.1, fun j r hj => ?_⟩
  obtain ⟨q, hq, hf⟩ := h.2 j r hj
  rcases t.takeLatch_locker? j with hk | ⟨p, hp, hc, -, hk⟩
  · exact ⟨q, by rw [hk, hq], hf⟩
  · obtain rfl : q = p := by simpa [hq] using hp
    exact ⟨_, hk, hf.pulsing hc⟩

theorem State.RecordsFollow.requestLatch {s t : State} (h : s.RecordsFollow t) (i : Nat) :
    s.RecordsFollow (t.requestLatch i) := by
  rw [State.requestLatch_eq]
  split
  · exact h.takeLatch
  · exact (h.of_lockers (by simp)).takeLatch

/-- A change of a record that is there puts what it makes of that record. -/
theorem State.modLocker_of_locker? {s : State} {i : Nat} {r : Locker} (h : s.locker? i = some r)
    (f : Locker → Locker) : s.modLocker i f = s.modLocker i fun _ => f r := by
  unfold State.modLocker
  split
  · rfl
  next hi =>
    simp only [State.locker?, hi, if_false] at h
    simp [List.modify_eq_set_getElem?, h]

/-- R10: the record with which a door cycle begins, and the request that follows where the door is closed. -/
theorem State.beginCycle_eq {s : State} {i : Nat} {r : Locker} (h : s.locker? i = some r) :
    s.beginCycle i = if r.doorOpen then s.modLocker i fun _ => r.begun
      else (s.modLocker i fun _ => r.begun).requestLatch i := by
  rw [State.beginCycle_some h]
  split
  next hd => rw [State.modLocker_of_locker? h]; simp [Locker.begun, hd]
  next hd => rw [State.modLocker_of_locker? h]; simp [Locker.begun, hd]

/-- R10: a door cycle begins in the one record that has changed. -/
theorem State.recordsFollow_beginCycle {s t : State} {i : Nat} (hc : t.count = s.count)
    (ho : ∀ j, j ≠ i → t.locker? j = s.locker? j)
    (hi : ∀ r, s.locker? i = some r → ∃ q, t.locker? i = some q ∧ r.Follows q.begun) :
    s.RecordsFollow (t.beginCycle i) := by
  cases hq : t.locker? i with
  | none =>
    refine State.recordsFollow_of_one (i := i) (by simpa using hc) (fun j hj => ?_) fun r hr => ?_
    · simp [State.beginCycle, hq, ho j hj]
    · obtain ⟨q, hq', -⟩ := hi r hr
      simp [hq] at hq'
  | some q =>
    have hf : s.RecordsFollow (t.modLocker i fun _ => q.begun) := by
      refine State.recordsFollow_of_one (i := i) (by simpa using hc) (fun j hj => by simp [hj, ho j hj]) fun r hr => ?_
      obtain ⟨q', hq', hf⟩ := hi r hr
      obtain rfl : q = q' := by simpa [hq] using hq'
      simpa [hq] using hf
    rw [State.beginCycle_eq hq]
    split
    · exact hf
    · exact hf.requestLatch i

end Sys2Proof.Machine
end

section
namespace Sys2Proof.Machine

/-! ### The records taken in ascending index order -/

theorem State.indices_nodup (s : State) : s.indices.Nodup :=
  List.Nodup.map (fun _ _ h => by simpa using h) List.nodup_range

/-- R1: an index that is none of the bank's reaches no record. -/
theorem State.locker?_of_notMem_indices {s : State} {i : Nat} (h : i ∉ s.indices) : s.locker? i = none := by
  cases hr : s.locker? i with
  | none => rfl
  | some r => exact absurd (State.mem_indices.mpr ⟨(State.locker?_eq_some hr).1, (State.locker?_eq_some hr).2.1⟩) h

section ForEach
variable {s : State} {f : State → Nat → State} {P : State → Prop} {g : Locker → Locker}

/-- A visit that changes the record visited alone, by one function, has changed every record so when all are taken. -/
theorem State.forEach_locker? (h0 : P s) (hP : ∀ t i, P t → P (f t i))
    (hl : ∀ t i j, P t → (f t i).locker? j = if j = i then (t.locker? j).map g else t.locker? j) (j : Nat) :
    (s.forEach f).locker? j = (s.locker? j).map g := by
  have key : ∀ l : List Nat, l.Nodup → ∀ t, P t →
      (l.foldl f t).locker? j = if j ∈ l then (t.locker? j).map g else t.locker? j := by
    intro l
    induction l with
    | nil => intro _ t _; simp
    | cons i l ih =>
      intro hn t ht
      obtain ⟨hi, hn⟩ := List.nodup_cons.mp hn
      rw [List.foldl_cons, ih hn _ (hP t i ht), hl t i j ht]
      by_cases hji : j = i
      · subst hji; simp [hi]
      · simp [hji]
  rw [State.forEach, key _ s.indices_nodup s h0]
  split
  · rfl
  next hj => simp [State.locker?_of_notMem_indices hj]

/-- A visit that queues at most one notice, told by the record visited: the notices come in ascending index order. -/
theorem State.forEach_line {n : Nat → Locker → Option NoticeFrame} (h0 : P s) (hP : ∀ t i, P t → P (f t i))
    (hl : ∀ t i j, P t → (f t i).locker? j = if j = i then (t.locker? j).map g else t.locker? j)
    (hn : ∀ t i, P t → (f t i).line = ((t.locker? i).bind (n i)).elim t.line t.line.pushNotice) :
    (s.forEach f).line =
      (s.indices.filterMap fun i => (s.locker? i).bind (n i)).foldl Line.pushNotice s.line := by
  have key : ∀ l : List Nat, l.Nodup → ∀ t, P t → (∀ j ∈ l, t.locker? j = s.locker? j) →
      (l.foldl f t).line = (l.filterMap fun i => (s.locker? i).bind (n i)).foldl Line.pushNotice t.line := by
    intro l
    induction l with
    | nil => intro _ t _ _; rfl
    | cons i l ih =>
      intro hd t ht hs
      obtain ⟨hi, hd⟩ := List.nodup_cons.mp hd
      have hs' : ∀ j ∈ l, (f t i).locker? j = s.locker? j := by
        intro j hj
        have : j ≠ i := fun h => hi (h ▸ hj)
        rw [hl t i j ht, if_neg this, hs j (List.mem_cons_of_mem i hj)]
      rw [List.foldl_cons, ih hd _ (hP t i ht) hs', hn t i ht, hs i List.mem_cons_self, List.filterMap_cons]
      cases (s.locker? i).bind (n i) <;> rfl
  exact key _ s.indices_nodup s h0 fun _ _ => rfl

end ForEach

/-! ### Notices leave the listen-only flag -/

@[simp] theorem State.retire_listenOnly (s : State) (i : Nat) (why : RetireReason) :
    (s.retire i why).line.listenOnly = s.line.listenOnly := by
  cases h : s.locker? i <;> simp [State.retire, h]

@[simp] theorem State.strike_listenOnly (s : State) (i : Nat) (why : FaultReason) :
    (s.strike i why).line.listenOnly = s.line.listenOnly := by
  cases h : s.locker? i with
  | none => simp [State.strike, h]
  | some r => rw [State.strike_some h]; split <;> simp

@[simp] theorem State.holdChecks_listenOnly (s : State) (i : Nat) :
    (s.holdChecks i).line.listenOnly = s.line.listenOnly := by
  rcases State.holdChecks_cases s i with h | h | h <;> simp [h]

/-! ### The hold checks (R21) -/

/-- R21: the reason for which the hold checks retire a record, if any. -/
def Locker.holdVerdict (r : Locker) (classes : List (Option ClassEntry)) (clock : Option Nat) : Option RetireReason :=
  match r.order, r.figures classes with
  | some o, some c =>
    if c.coldLimit ≤ r.cold then some .cold
    else if c.longest * 60 ≤ r.holdAge ∨ isDue clock (expiryMinute o c) then some .expired
    else none
  | _, _ => none

/-- R7: a record retired for a reason, or as it stands where there is none. -/
def Locker.retiredFor (r : Locker) (why : Option RetireReason) : Locker := why.elim r r.toRetired

/-- R7: the notice of a record retired for a reason. -/
def Locker.retireNotice (r : Locker) (i : Nat) (why : RetireReason) : NoticeFrame :=
  ⟨i, .retired, .retire why, r.orderNumber, false⟩

/-- R21: the hold checks retire the record by its verdict. -/
theorem State.holdChecks_eq {s : State} {i : Nat} {r : Locker} (h : s.locker? i = some r) :
    s.holdChecks i = (r.holdVerdict s.time.classes s.time.clock).elim s (s.retire i) := by
  cases ho : r.order with
  | none => simp [State.holdChecks, Locker.holdVerdict, h, ho]
  | some o =>
    cases hf : r.figures s.time.classes with
    | none => simp [State.holdChecks, Locker.holdVerdict, h, ho, hf]
    | some c =>
      simp only [State.holdChecks, Locker.holdVerdict, h, ho, hf]
      split
      · rfl
      · split <;> rfl

/-- R7: the records after one has been retired for a reason, or left. -/
theorem State.retire_elim_locker? {s : State} {i : Nat} {r : Locker} (h : s.locker? i = some r)
    (verdict : Locker → Option RetireReason) (j : Nat) :
    ((verdict r).elim s (s.retire i)).locker? j =
      if j = i then (s.locker? j).map fun r => r.retiredFor (verdict r) else s.locker? j := by
  cases hv : verdict r <;> by_cases hj : j = i <;> simp [hj, h, hv, Locker.retiredFor]

/-- R7: the notice of a record that has been retired for a reason. -/
theorem State.retire_elim_line {s : State} {i : Nat} {r : Locker} (h : s.locker? i = some r)
    (verdict : Option RetireReason) :
    (verdict.elim s (s.retire i)).line = (verdict.map (r.retireNotice i)).elim s.line s.line.pushNotice := by
  cases verdict with
  | none => rfl
  | some why =>
    simp only [Option.elim_some, Option.map_some]
    rw [State.retire_some h]; simp [Locker.retireNotice]

theorem State.holdChecks_locker? (s : State) (i j : Nat) :
    (s.holdChecks i).locker? j = if j = i then
      (s.locker? j).map fun r => r.retiredFor (r.holdVerdict s.time.classes s.time.clock) else s.locker? j := by
  cases h : s.locker? i with
  | none => by_cases hj : j = i <;> simp [State.holdChecks, h, hj]
  | some r =>
    rw [State.holdChecks_eq h]
    exact State.retire_elim_locker? h (fun r => r.holdVerdict s.time.classes s.time.clock) j

theorem State.holdChecks_line {s : State} {i : Nat} {r : Locker} (h : s.locker? i = some r) :
    (s.holdChecks i).line = (((r.holdVerdict s.time.classes s.time.clock).map (r.retireNotice i)).elim s.line
      s.line.pushNotice) := by
  rw [State.holdChecks_eq h, State.retire_elim_line h]

end Sys2Proof.Machine
end

section
namespace Sys2Proof.Machine

/-! ### The records at a warm restart (R28) -/

/-- R28: a record at a warm restart. -/
def Locker.reverted (r : Locker) (classes : List (Option ClassEntry)) (clock : Option Nat) : Locker :=
  if r.cycle = .queued ∨ r.cycle = .pulsing then
    match r.state with
    | .loading => if r.voidPending then r.ended.toVacant else { r.ended with state := .reserved, phase := .raise }
    | .releasing => { r.ended with state := .holding }.retiredFor (r.holdVerdict classes clock)
    | _ => r.ended
  else r

/-- R28: the notice of a record at a warm restart. -/
def Locker.revertNotice (classes : List (Option ClassEntry)) (clock : Option Nat) (i : Nat) (r : Locker) :
    Option NoticeFrame :=
  if r.cycle = .queued ∨ r.cycle = .pulsing then
    match r.state with
    | .loading => if r.voidPending then some ⟨i, .cancelled, .none, r.orderNumber, false⟩ else none
    | .releasing => (r.holdVerdict classes clock).map (r.retireNotice i)
    | _ => none
  else none

theorem State.revert_locker? (s : State) (i j : Nat) :
    (s.revert i).locker? j = if j = i then (s.locker? j).map fun r => r.reverted s.time.classes s.time.clock
      else s.locker? j := by
  cases h : s.locker? i with
  | none => by_cases hj : j = i <;> simp [State.revert, h, hj]
  | some r =>
    by_cases hc : r.cycle = .queued ∨ r.cycle = .pulsing
    · cases hs : r.state
      case loading =>
        cases hv : r.voidPending <;> by_cases hj : j = i <;>
          simp [State.revert, Locker.reverted, Locker.ended, h, hc, hs, hv, hj]
      case releasing =>
        by_cases hj : j = i <;> simp [State.revert, Locker.reverted, State.holdChecks_locker?, h, hc, hs, hj]
        rfl
      all_goals by_cases hj : j = i <;> simp [State.revert, Locker.reverted, Locker.ended, h, hc, hs, hj]
    · by_cases hj : j = i <;> simp [State.revert, Locker.reverted, h, hc, hj]

theorem State.revert_line (s : State) (i : Nat) :
    (s.revert i).line =
      ((s.locker? i).bind (Locker.revertNotice s.time.classes s.time.clock i)).elim s.line s.line.pushNotice := by
  cases h : s.locker? i with
  | none => simp [State.revert, h]
  | some r =>
    by_cases hc : r.cycle = .queued ∨ r.cycle = .pulsing
    · cases hs : r.state
      case loading => cases hv : r.voidPending <;> simp [State.revert, Locker.revertNotice, h, hc, hs, hv]
      case releasing =>
        simp only [State.revert, Locker.revertNotice, h, hc, hs, if_true, Option.bind_some]
        rw [State.holdChecks_line (r := { r.ended with state := .holding }) (by simp [h, Locker.ended])]
        simp; rfl
      all_goals simp [State.revert, Locker.revertNotice, h, hc, hs]
    · simp [State.revert, Locker.revertNotice, h, hc]

/-- R28, R49: every record at a warm restart. -/
theorem State.warmRestart_locker? (s : State) (j : Nat) :
    s.warmRestart.locker? j = (s.locker? j).map fun r =>
      (r.reverted s.time.classes s.time.clock).recomputed s.time.classes s.time.clock s.straps.commission := by
  have hf : ∀ (t : State) i, t.time = s.time → (t.revert i).time = s.time := fun t i ht => by simpa using ht
  have hl := State.forEach_locker? (s := s.restartBlocks) (P := fun t => t.time = s.time)
    (g := fun r => r.reverted s.time.classes s.time.clock) rfl hf
    (fun t i j ht => by rw [State.revert_locker?, ht]) j
  have ht : (s.restartBlocks.forEach State.revert).time = s.time ∧
      (s.restartBlocks.forEach State.revert).straps = s.straps :=
    State.forEach_keeps (P := fun t => t.time = s.time ∧ t.straps = s.straps) ⟨rfl, rfl⟩
      fun t i _ ht => by simpa using ht
  rw [State.warmRestart, State.recomputeAll_locker?, hl, ht.1, ht.2]
  simp only [Option.map_map]
  rfl

/-- R28, R145: the notices of a warm restart, in ascending index order. -/
theorem State.warmRestart_line (s : State) :
    s.warmRestart.line = (s.indices.filterMap fun i =>
      (s.locker? i).bind (Locker.revertNotice s.time.classes s.time.clock i)).foldl Line.pushNotice s.line.restarted := by
  have := State.forEach_line (s := s.restartBlocks) (P := fun t => t.time = s.time) (f := State.revert)
    (g := fun r => r.reverted s.time.classes s.time.clock) (n := Locker.revertNotice s.time.classes s.time.clock) rfl
    (fun t i ht => by simpa using ht) (fun t i j ht => by rw [State.revert_locker?, ht])
    (fun t i ht => by rw [State.revert_line, ht])
  simp only [State.warmRestart, State.recomputeAll_frame]
  exact this

theorem Locker.follows_reverted (r : Locker) (classes : List (Option ClassEntry)) (clock : Option Nat) :
    r.Follows (r.reverted classes clock) := by
  unfold Locker.reverted
  split
  next hc =>
    cases hs : r.state
    case loading =>
      cases hv : r.voidPending
      · exact (r.follows_ended_back hc (.inl ⟨hs, hv⟩) (.inl rfl)).alike (by constructor <;> rfl)
      · exact r.follows_ended_toVacant hc hs
    case releasing =>
      cases hv : r.holdVerdict classes clock
      · exact r.follows_ended_back hc (.inr hs) (.inr rfl)
      · exact r.follows_ended_toRetired _ hc hs
    all_goals exact r.follows_ended hc (by simp [hs])
  · exact .refl r

theorem State.recordsFollow_warmRestart (s : State) : s.RecordsFollow s.warmRestart := by
  refine ⟨by simp, fun j r hr => ⟨_, by rw [State.warmRestart_locker?, hr]; rfl, ?_⟩⟩
  exact (r.follows_reverted ..).alike (Locker.alike_recomputed ..)

end Sys2Proof.Machine
end

section
namespace Sys2Proof.Machine

/-! ### What the locker operations can do -/

@[simp] theorem State.withdrawLatch_count (s : State) (i : Nat) : (s.withdrawLatch i).count = s.count := rfl

@[simp] theorem State.withdrawLatch_indices (s : State) (i : Nat) : (s.withdrawLatch i).indices = s.indices := rfl

/-- R15, R33: what a probe fault makes of the state: a queued request withdrawn, or the strike alone. -/
theorem State.probeFault_cases {s : State} {i : Nat} {r : Locker} (h : s.locker? i = some r) :
    (((r.state = .loading ∨ r.state = .releasing) ∧ r.cycle = .queued) ∧
      s.probeFault i = ((s.withdrawLatch i).modLocker i Locker.ended).strike i .probe) ∨
    (¬ ((r.state = .loading ∨ r.state = .releasing) ∧ r.cycle = .queued) ∧ s.probeFault i = s.strike i .probe) := by
  simp only [State.probeFault, h]
  split
  next hq => exact .inl ⟨hq, rfl⟩
  next hq => exact .inr ⟨hq, rfl⟩

/-- R40: a record becomes ready, or nothing changes. -/
theorem State.judgeReady_cases {s : State} {i : Nat} {r : Locker} (h : s.locker? i = some r) :
    (((r.state = .holding ∨ r.state = .releasing) ∧ r.ready = false ∧
        ∃ c, r.figures s.time.classes = some c ∧ c.target ≤ r.temp) ∧
      s.judgeReady i = (s.modLocker i fun r => { r with ready := true }).notify i .ready .none r.orderNumber) ∨
    (¬ ((r.state = .holding ∨ r.state = .releasing) ∧ r.ready = false ∧
        ∃ c, r.figures s.time.classes = some c ∧ c.target ≤ r.temp) ∧ s.judgeReady i = s) := by
  simp only [State.judgeReady, h]
  cases hf : r.figures s.time.classes with
  | none => exact .inr ⟨by simp, rfl⟩
  | some c =>
    dsimp only
    split
    next hq => exact .inl ⟨⟨hq.1, hq.2.1, c, rfl, hq.2.2⟩, rfl⟩
    next hq =>
      refine .inr ⟨?_, rfl⟩
      rintro ⟨hs, hr, c', hc, ht⟩
      cases hc
      exact hq ⟨hs, hr, ht⟩

/-- R33, R40: a sample result is a probe fault, or is judged for readiness. -/
theorem State.takeResult_cases {s : State} {i : Nat} {r : Locker} (h : s.locker? i = some r) :
    ((r.faultRun = 3 ∧ r.state ≠ .blocked ∧ r.state ≠ .fault) ∧ s.takeResult i = s.probeFault i) ∨
    (¬ (r.faultRun = 3 ∧ r.state ≠ .blocked ∧ r.state ≠ .fault) ∧ s.takeResult i = s.judgeReady i) := by
  simp only [State.takeResult, h]
  split
  next hq => exact .inl ⟨hq, rfl⟩
  next hq => exact .inr ⟨hq, rfl⟩

/-- What a sample result leaves unchanged. -/
@[simp] theorem State.takeResult_frame (s : State) (i : Nat) :
    (s.takeResult i).straps = s.straps ∧ (s.takeResult i).time = s.time ∧ (s.takeResult i).scanAt = s.scanAt ∧
    (s.takeResult i).keypad = s.keypad ∧ (s.takeResult i).book = s.book ∧ (s.takeResult i).share = s.share ∧
    (s.takeResult i).grant = s.grant ∧ (s.takeResult i).cip = s.cip ∧ (s.takeResult i).lamp = s.lamp ∧
    (s.takeResult i).pins = s.pins ∧ (s.takeResult i).owed = s.owed ∧ (s.takeResult i).ties = s.ties ∧
    (s.takeResult i).pending = s.pending ∧ (s.takeResult i).count = s.count ∧
    ∀ j, j ≠ i → (s.takeResult i).locker? j = s.locker? j := by
  cases h : s.locker? i with
  | none => simp [State.takeResult, h]
  | some r =>
    rcases State.takeResult_cases h with ⟨-, ht⟩ | ⟨-, ht⟩ <;> rw [ht]
    · rcases State.probeFault_cases h with ⟨-, hp⟩ | ⟨-, hp⟩ <;> simp +contextual [hp]
    · rcases State.judgeReady_cases h with ⟨-, hp⟩ | ⟨-, hp⟩ <;> simp +contextual [hp]

/-- R8, R33, R40: what a sample result makes of a swept record. -/
theorem State.takeResult_record {s : State} {i : Nat} {r : Locker} (h : s.locker? i = some r) (hs : r.swept = true) :
    ∃ q, (s.takeResult i).locker? i = some q ∧ r.Follows q := by
  rcases State.takeResult_cases h with ⟨-, ht⟩ | ⟨-, ht⟩ <;> rw [ht]
  · rcases State.probeFault_cases h with ⟨hq, hp⟩ | ⟨-, hp⟩
    · exact ⟨r.ended.toFault .probe, by simp [hp, h], Locker.follows_toFault_ended _ hs (by simp [hq.2])⟩
    · exact ⟨r.toFault .probe, by simp [hp, h], Locker.follows_toFault _ hs⟩
  · rcases State.judgeReady_cases h with ⟨-, hp⟩ | ⟨-, hp⟩
    · exact ⟨{ r with ready := true }, by simp [hp, h], Locker.Alike.follows (by constructor <;> rfl)⟩
    · exact ⟨r, by simp [hp, h], .refl r⟩

/-- R29: a sample of a record that has just been read for the first time, or is sampled as it stands. -/
theorem State.recordsFollow_sample {s t : State} {i : Nat} (raw : Nat) (hc : t.count = s.count)
    (ho : ∀ j, j ≠ i → t.locker? j = s.locker? j)
    (hi : ∀ r, s.locker? i = some r → ∃ p, t.locker? i = some p ∧ p.swept = true ∧ r.Follows p ∧
      (r.Fits → p.order = r.order)) : s.RecordsFollow (t.sample i raw) := by
  refine State.RecordsFollow.recompute (State.recordsFollow_of_one (i := i) (by simpa using hc) ?_ ?_) i
  · intro j hj; simp [hj, ho j hj]
  · intro r hr
    obtain ⟨p, hp, hs, hf, hor⟩ := hi r hr
    have hal := p.alike_sampled raw
    obtain ⟨q, hq, hpq⟩ := State.takeResult_record (s := t.modLocker i fun r => r.sampled raw) (i := i)
      (r := p.sampled raw) (by simp [hp]) (by rw [hal.swept, hs])
    exact ⟨q, hq, hf.trans hor (hal.follows_of hpq)⟩

/-! ### The rows that change records -/

theorem recordsFollow_execProbeSample {s t : State} {i raw : Nat} (h : execProbeSample i raw s = .next t) :
    s.RecordsFollow t := by
  obtain rfl := Host.Outcome.next.inj h
  cases hr : s.locker? i with
  | none => exact State.recordsFollow_of_lockers rfl
  | some r =>
    dsimp only
    split
    next hs =>
      refine State.recordsFollow_sample raw (by simp) (by simp) fun r' hr' => ⟨r, by simp [hr], hs, ?_⟩
      obtain rfl : r = r' := by simpa [hr] using hr'
      exact ⟨.refl r, fun _ => rfl⟩
    next => exact State.recordsFollow_of_lockers rfl

theorem recordsFollow_execFirstSweepReading {s t : State} {i raw : Nat} {door tray : Bool}
    (h : execFirstSweepReading i door tray raw s = .next t) : s.RecordsFollow t := by
  obtain rfl := Host.Outcome.next.inj h
  cases hr : s.locker? i with
  | none => exact State.recordsFollow_of_lockers rfl
  | some r =>
    dsimp only
    split
    next => exact State.recordsFollow_of_lockers rfl
    next hs =>
      have hs : r.swept = false := by simpa using hs
      refine State.recordsFollow_sample raw (by cases tray <;> simp) (fun j hj => by cases tray <;> simp [hj])
        fun r' hr' => ?_
      obtain rfl : r = r' := by simpa [hr] using hr'
      cases tray
      · refine ⟨_, by simp [hr]; rfl, ?_, Locker.follows_firstRead hs .., fun _ => ?_⟩ <;>
          cases door <;> rfl
      · refine ⟨_, by simp [hr]; rfl, ?_, Locker.follows_firstRead_retired hs .., fun _ => ?_⟩ <;>
          cases door <;> rfl


/-! ### Doors -/

/-- R9, R13, R14: an opening completes a release, changes nothing, is maintenance, or is forced. -/
theorem State.takeOpening_cases {s : State} {i : Nat} {r : Locker} (h : s.locker? i = some r) :
    ((r.cycle = .pulsing ∨ r.cycle = .awaitOpen) ∧ s.takeOpening i = s.completeRelease i) ∨
    (r.cycle = .opened ∧ s.takeOpening i = s) ∨
    (((r.cycle = .none ∨ r.cycle = .queued) ∧ r.state = .blocked) ∧ s.takeOpening i = s.maintenanceOpening i) ∨
    (((r.cycle = .none ∨ r.cycle = .queued) ∧ r.state ≠ .blocked) ∧ s.takeOpening i = s.forcedOpening i) := by
  by_cases hb : r.state = .blocked <;> cases hc : r.cycle <;> simp [State.takeOpening, h, hb, hc]

theorem recordsFollow_execDoorOpened {s t : State} {i : Nat} (h : execDoorOpened i s = .next t) :
    s.RecordsFollow t := by
  obtain rfl := Host.Outcome.next.inj h
  cases hr : s.locker? i with
  | none => exact State.recordsFollow_of_lockers rfl
  | some r =>
    dsimp only
    split
    next hs =>
      obtain ⟨hs, hd⟩ := hs
      refine State.RecordsFollow.recompute ?_ i
      have hop : ((s.modPins i fun p => { p with doorOpen := true }).modLocker i Locker.openedNow).locker? i =
        some r.openedNow := by simp [hr]
      rcases State.takeOpening_cases hop with ⟨hc, ho⟩ | ⟨hc, ho⟩ | ⟨hc, ho⟩ | ⟨hc, ho⟩ <;> rw [ho]
      · refine State.recordsFollow_of_record hr (by simp [State.completeRelease])
          (fun j hj => by simp [State.completeRelease, hj]) ?_ (Locker.follows_released hc)
        simp [State.completeRelease, hr]
      · refine State.recordsFollow_of_record hr (by simp) (fun j hj => by simp [hj]) hop
          (Locker.follows_openedNow hc hd)
      · refine State.recordsFollow_of_record hr (by simp [State.maintenanceOpening])
          (fun j hj => by simp [State.maintenanceOpening, hj]) ?_ (Locker.follows_maintenance hc.2 hc.1)
        simp [State.maintenanceOpening, hr]
      · refine State.recordsFollow_of_record hr (by simp [State.forcedOpening])
          (fun j hj => by simp [State.forcedOpening, hj]) ?_ (Locker.follows_forced hs hc.1)
        simp [State.forcedOpening, hr]; rfl
    next => exact State.recordsFollow_of_lockers rfl

/-- R17: a close ends an OPEN cycle, and no other. -/
theorem State.takeClose_cases {s : State} {i : Nat} {r : Locker} (h : s.locker? i = some r) :
    (r.cycle ≠ .opened ∧ s.takeClose i = s) ∨
    (r.cycle = .opened ∧ s.takeClose i = (s.judgeClose i r).modLocker i Locker.ended) := by
  simp only [State.takeClose, h]
  split
  next hc => exact .inr ⟨hc, rfl⟩
  next hc => exact .inl ⟨hc, rfl⟩

/-- R18: a record that has been loaded, but for its phase. -/
def Locker.loaded (r : Locker) : Locker := { r with state := .holding, cold := 0, holdAge := 0, ready := false }

/-- R19: a record that returns to RESERVED. -/
def Locker.unloaded (r : Locker) : Locker := { r with state := .reserved, phase := .raise }

/-- R21: a record that returns to HOLDING. -/
def Locker.returned (r : Locker) : Locker := { r with state := .holding }

/-- R17 to R23: a judged close leaves the record, retires it, vacates it, holds it, reserves it again or returns it. -/
theorem State.judgeClose_cases (s : State) (i : Nat) (r : Locker) :
    ((r.state ≠ .loading ∧ r.state ≠ .releasing) ∧ s.judgeClose i r = s) ∨
    (∃ why, s.judgeClose i r = s.retire i why) ∨
    (∃ e, s.judgeClose i r = (s.notify i e .none r.orderNumber).vacate i) ∨
    ((r.state = .loading ∧ r.voidPending = false) ∧ s.judgeClose i r =
      (s.modLocker i fun r => r.loaded.phaseAtLoad s.time.classes).notify i .loaded .none r.orderNumber) ∨
    ((r.state = .loading ∧ r.voidPending = false) ∧ s.judgeClose i r = s.modLocker i Locker.unloaded) ∨
    (r.state = .releasing ∧ s.judgeClose i r =
      ((s.modLocker i Locker.returned).notify i .returned .none r.orderNumber).holdChecks i) := by
  unfold State.judgeClose
  split
  next hs _ =>
    unfold State.loadClose
    split
    · exact .inr (.inl ⟨_, rfl⟩)
    next hv => exact .inr (.inr (.inr (.inl ⟨⟨hs, by simpa using hv⟩, rfl⟩)))
  next hs _ =>
    unfold State.emptyLoadClose
    split
    · exact .inr (.inr (.inl ⟨_, rfl⟩))
    next hv => exact .inr (.inr (.inr (.inr (.inl ⟨⟨hs, by simpa using hv⟩, rfl⟩))))
  next => exact .inr (.inr (.inl ⟨_, rfl⟩))
  next hs _ => exact .inr (.inr (.inr (.inr (.inr ⟨hs, rfl⟩))))
  next => exact .inr (.inr (.inl ⟨_, rfl⟩))
  next => exact .inr (.inr (.inl ⟨_, rfl⟩))
  next hs _ => exact .inl ⟨by simp [hs], rfl⟩
  next hs _ => exact .inl ⟨by simp [hs], rfl⟩
  next hs => exact .inl ⟨by simp [hs], rfl⟩
  next => exact .inr (.inl ⟨_, rfl⟩)
  next hs _ => exact .inl ⟨by simp [hs], rfl⟩
  next hs => exact .inl ⟨by simp [hs], rfl⟩
  next hs => exact .inl ⟨by simp [hs], rfl⟩

/-- R17 to R23: what a close that ends the cycle of a record with an open door makes of the record. -/
theorem State.judgeClose_record {s : State} {i : Nat} {r : Locker} (h : s.locker? i = some r.shut)
    (hs : r.swept = true) (hc : r.cycle = .opened) :
    ∃ q, (s.judgeClose i r.shut).locker? i = some q ∧ r.Follows q.ended := by
  rcases s.judgeClose_cases i r.shut with ⟨hl, ho⟩ | ⟨why, ho⟩ | ⟨e, ho⟩ | ⟨hl, ho⟩ | ⟨hl, ho⟩ | ⟨hl, ho⟩ <;> rw [ho]
  · exact ⟨_, h, Locker.follows_shut_ended hs hc hl⟩
  · exact ⟨r.shut.toRetired why, by simp [h], Locker.follows_shut_toRetired why hs hc⟩
  · exact ⟨r.shut.toVacant, by simp [h], Locker.follows_shut_toVacant hs hc⟩
  · refine ⟨r.shut.loaded.phaseAtLoad s.time.classes, by simp [h], ?_⟩
    refine (Locker.follows_shut_back hs hc (.inl hl) (.inr rfl)).alike ?_
    unfold Locker.phaseAtLoad
    repeat' split
    all_goals constructor <;> rfl
  · refine ⟨r.shut.unloaded, by simp [h], ?_⟩
    exact (Locker.follows_shut_back hs hc (.inl hl) (.inl rfl)).alike (by constructor <;> rfl)
  · refine ⟨_, by rw [State.holdChecks_locker?]; simp [h]; rfl, ?_⟩
    cases hv : r.shut.returned.holdVerdict s.time.classes s.time.clock with
    | none => exact Locker.follows_shut_back hs hc (.inr hl) (.inr rfl)
    | some why => exact Locker.follows_shut_toRetired why hs hc

/-- What a judged close leaves unchanged. -/
@[simp] theorem State.judgeClose_frame (s : State) (i : Nat) (r : Locker) :
    (s.judgeClose i r).straps = s.straps ∧ (s.judgeClose i r).time = s.time ∧
    (s.judgeClose i r).scanAt = s.scanAt ∧ (s.judgeClose i r).latch = s.latch ∧
    (s.judgeClose i r).keypad = s.keypad ∧ (s.judgeClose i r).book = s.book ∧
    (s.judgeClose i r).share = s.share ∧ (s.judgeClose i r).grant = s.grant ∧ (s.judgeClose i r).cip = s.cip ∧
    (s.judgeClose i r).lamp = s.lamp ∧ (s.judgeClose i r).pins = s.pins ∧ (s.judgeClose i r).owed = s.owed ∧
    (s.judgeClose i r).ties = s.ties ∧ (s.judgeClose i r).pending = s.pending ∧
    (s.judgeClose i r).count = s.count ∧ ∀ j, j ≠ i → (s.judgeClose i r).locker? j = s.locker? j := by
  rcases s.judgeClose_cases i r with ⟨-, h⟩ | ⟨why, h⟩ | ⟨e, h⟩ | ⟨-, h⟩ | ⟨-, h⟩ | ⟨-, h⟩ <;>
    simp +contextual [h, State.holdChecks_locker?]

theorem recordsFollow_execDoorClosed {s t : State} {i : Nat} (h : execDoorClosed i s = .next t) :
    s.RecordsFollow t := by
  obtain rfl := Host.Outcome.next.inj h
  cases hr : s.locker? i with
  | none => exact State.recordsFollow_of_lockers rfl
  | some r =>
    dsimp only
    split
    next hs =>
      obtain ⟨hs, hd⟩ := hs
      refine State.RecordsFollow.recompute ?_ i
      have hsh : ((s.modPins i fun p => { p with doorOpen := false }).modLocker i Locker.shut).locker? i =
        some r.shut := by simp [hr]
      change s.RecordsFollow (((s.modPins i fun p => { p with doorOpen := false }).modLocker i Locker.shut).takeClose i)
      rcases State.takeClose_cases hsh with ⟨hc, ho⟩ | ⟨hc, ho⟩ <;> rw [ho]
      · exact State.recordsFollow_of_record hr (by simp) (fun j hj => by simp [hj]) hsh (Locker.follows_shut hs hc)
      · obtain ⟨q, hq, hf⟩ := State.judgeClose_record hsh hs hc
        exact State.recordsFollow_of_record hr (by simp) (fun j hj => by simp [hj]) (by simp [hq]) hf
    next => exact State.recordsFollow_of_lockers rfl

/-! ### Trays, timers and pulses -/

theorem recordsFollow_trayChange (s : State) (i : Nat) (present : Bool) : s.RecordsFollow (s.trayChange i present) := by
  cases hr : s.locker? i with
  | none => exact State.recordsFollow_of_lockers (by simp [State.trayChange, hr])
  | some r =>
    simp only [State.trayChange, hr]
    split
    next hs =>
      have hal : r.Alike { r with trayPresent := present, traySettle := none } := by constructor <;> rfl
      split
      · refine State.RecordsFollow.recompute ?_ i
        refine State.recordsFollow_of_record hr (by simp) (fun j hj => by simp [hj]) (by simp [hr]; rfl) ?_
        exact hal.follows_of (Locker.follows_toFault .tray hs.1)
      · exact State.recordsFollow_of_record hr (by simp) (fun j hj => by simp [hj]) (by simp [hr]) hal.follows
    next => exact State.recordsFollow_of_lockers rfl

theorem recordsFollow_execAjar {s t : State} {i : Nat} (h : execAjar i s = .next t) : s.RecordsFollow t := by
  obtain rfl := Host.Outcome.next.inj h
  cases hr : s.locker? i with
  | none => exact State.recordsFollow_of_lockers rfl
  | some r =>
    dsimp only
    split
    · have hal : r.Alike { r with ajar := none, ajarGiven := true } := by constructor <;> rfl
      exact State.recordsFollow_of_record hr (by simp) (fun j hj => by simp [hj]) (by simp [hr]) hal.follows
    · exact State.recordsFollow_of_lockers rfl

theorem recordsFollow_execOpenWaitExpired {s t : State} {i : Nat} (h : execOpenWaitExpired i s = .next t) :
    s.RecordsFollow t := by
  obtain rfl := Host.Outcome.next.inj h
  cases hr : s.locker? i with
  | none => exact State.recordsFollow_of_lockers rfl
  | some r =>
    dsimp only
    split
    next hc =>
      split
      · refine State.RecordsFollow.requestLatch ?_ i
        exact State.recordsFollow_of_record hr (by simp) (fun j hj => by simp [hj]) (by simp [hr])
          (Locker.follows_retry hc)
      · refine State.RecordsFollow.recompute ?_ i
        exact State.recordsFollow_of_record hr (by simp) (fun j hj => by simp [hj]) (by simp [hr])
          (Locker.follows_toFault_latch hc)
    · exact State.recordsFollow_of_lockers rfl

theorem recordsFollow_execPulseEnded {s t : State} (h : execPulseEnded s = .next t) : s.RecordsFollow t := by
  obtain rfl := Host.Outcome.next.inj h
  cases s.latch.pulse with
  | none => exact State.recordsFollow_of_lockers rfl
  | some p =>
    refine State.RecordsFollow.takeLatch (State.recordsFollow_of_one (i := p.locker) (by simp) ?_ fun r hr => ?_)
    · intro j hj; simp [hj]
    · exact ⟨r.pulseEnd, by simp [hr], r.follows_pulseEnd⟩

/-! ### Ticks -/

/-- R37: the reason for which the check of a second tick retires a record, if any. -/
def Locker.limitVerdict (r : Locker) (classes : List (Option ClassEntry)) : Option RetireReason :=
  match r.figures classes with
  | none => none
  | some c =>
    if r.state = .holding then
      if c.coldLimit ≤ r.cold then some .cold else if c.longest * 60 ≤ r.holdAge then some .expired else none
    else none

/-- R37: the check of a second tick retires the record by its verdict. -/
theorem State.checkLimits_eq {s : State} {i : Nat} {r : Locker} (h : s.locker? i = some r) :
    s.checkLimits i = (r.limitVerdict s.time.classes).elim s (s.retire i) := by
  cases hf : r.figures s.time.classes with
  | none => simp [State.checkLimits, Locker.limitVerdict, h, hf]
  | some c =>
    simp only [State.checkLimits, Locker.limitVerdict, h, hf]
    split
    · split
      · rfl
      · split <;> rfl
    · rfl

theorem State.checkLimits_locker? (s : State) (i j : Nat) :
    (s.checkLimits i).locker? j = if j = i then
      (s.locker? j).map fun r => r.retiredFor (r.limitVerdict s.time.classes) else s.locker? j := by
  cases h : s.locker? i with
  | none => by_cases hj : j = i <;> simp [State.checkLimits, h, hj]
  | some r =>
    rw [State.checkLimits_eq h]
    exact State.retire_elim_locker? h (fun r => r.limitVerdict s.time.classes) j

/-- R37, R46: a HOLDING record that may be retired. -/
theorem Locker.follows_retiredFor {r : Locker} {why : Option RetireReason} (h : why ≠ none → r.state = .holding) :
    r.Follows (r.retiredFor why) := by
  cases why with
  | none => exact .refl r
  | some why =>
    have hh := h (by simp)
    simp only [Locker.retiredFor, Option.elim_some, Locker.toRetired]
    constructor <;> grind

theorem Locker.limitVerdict_holding {r : Locker} {classes : List (Option ClassEntry)}
    (h : r.limitVerdict classes ≠ none) : r.state = .holding := by
  by_contra hn
  refine h ?_
  unfold Locker.limitVerdict
  cases r.figures classes <;> simp [hn]

theorem State.withLockers_map_locker? (s : State) (f : Locker → Locker) (j : Nat) :
    (s.withLockers (s.lockers.map f)).locker? j = (s.locker? j).map f := by
  simp only [State.locker?, State.withLockers_lockers]
  split <;> simp

/-- The state of a second tick before the hold limits are checked. -/
def State.secondCounted (s : State) : State :=
  (s.withTime s.time.secondTick).withLockers (s.lockers.map fun r => r.counted s.time.classes)

/-- What the check of the limits leaves unchanged. -/
@[simp] theorem State.checkLimits_frame (s : State) (i : Nat) :
    (s.checkLimits i).straps = s.straps ∧ (s.checkLimits i).time = s.time ∧ (s.checkLimits i).scanAt = s.scanAt ∧
    (s.checkLimits i).latch = s.latch ∧ (s.checkLimits i).keypad = s.keypad ∧ (s.checkLimits i).book = s.book ∧
    (s.checkLimits i).share = s.share ∧ (s.checkLimits i).grant = s.grant ∧ (s.checkLimits i).cip = s.cip ∧
    (s.checkLimits i).lamp = s.lamp ∧ (s.checkLimits i).pins = s.pins ∧ (s.checkLimits i).count = s.count ∧
    (s.checkLimits i).line.listenOnly = s.line.listenOnly := by
  cases h : s.locker? i with
  | none => simp [State.checkLimits, h]
  | some r => rw [State.checkLimits_eq h]; cases r.limitVerdict s.time.classes <;> simp

/-- The state of a second tick once the hold limits are checked. -/
def State.secondChecked (s : State) : State := s.secondCounted.forEach State.checkLimits

theorem execSecondTick_eq (s : State) : execSecondTick s = .next
    (s.secondChecked.withLockers
      (s.secondChecked.lockers.map fun r => r.keepTick s.secondChecked.time.classes)).recomputeAll :=
  rfl

/-- What the counts and checks of a second tick leave unchanged. -/
@[simp] theorem State.secondChecked_frame (s : State) :
    s.secondChecked.straps = s.straps ∧ s.secondChecked.time = s.time.secondTick ∧
    s.secondChecked.scanAt = s.scanAt ∧ s.secondChecked.latch = s.latch ∧ s.secondChecked.keypad = s.keypad ∧
    s.secondChecked.book = s.book ∧ s.secondChecked.share = s.share ∧ s.secondChecked.grant = s.grant ∧
    s.secondChecked.cip = s.cip ∧ s.secondChecked.lamp = s.lamp ∧ s.secondChecked.pins = s.pins ∧
    s.secondChecked.count = s.count ∧ s.secondChecked.line.listenOnly = s.line.listenOnly := by
  refine State.forEach_keeps (P := fun t => t.straps = s.straps ∧ t.time = s.time.secondTick ∧ t.scanAt = s.scanAt ∧
    t.latch = s.latch ∧ t.keypad = s.keypad ∧ t.book = s.book ∧ t.share = s.share ∧ t.grant = s.grant ∧
    t.cip = s.cip ∧ t.lamp = s.lamp ∧ t.pins = s.pins ∧ t.count = s.count ∧
    t.line.listenOnly = s.line.listenOnly) ?_ fun t i _ ht => ?_
  · simp [State.secondCounted, State.count]
  · simpa using ht

theorem State.secondChecked_locker? (s : State) (j : Nat) :
    s.secondChecked.locker? j = (s.locker? j).map fun r =>
      (r.counted s.time.classes).retiredFor ((r.counted s.time.classes).limitVerdict s.time.classes) := by
  have hl := State.forEach_locker? (s := s.secondCounted) (P := fun t => t.time = s.time.secondTick)
    (f := State.checkLimits) (g := fun r => r.retiredFor (r.limitVerdict s.time.classes)) rfl
    (fun t i ht => by simpa using ht) (fun t i j ht => by rw [State.checkLimits_locker?, ht]; rfl) j
  rw [State.secondChecked, hl, State.secondCounted]
  have := State.withLockers_map_locker? (s.withTime s.time.secondTick) (fun r => r.counted s.time.classes) j
  simp only [State.withTime_lockers] at this
  rw [this]
  simp [Function.comp_def]

theorem recordsFollow_execSecondTick {s t : State} (h : execSecondTick s = .next t) : s.RecordsFollow t := by
  rw [execSecondTick_eq] at h
  obtain rfl := Host.Outcome.next.inj h
  refine State.RecordsFollow.recomputeAll ⟨?_, fun j r hr => ?_⟩
  · have := s.secondChecked_frame
    simp_all [State.count]
  · rw [State.withLockers_map_locker?, State.secondChecked_locker?, hr]
    exact ⟨_, rfl, ((r.alike_counted _).follows_of (Locker.follows_retiredFor Locker.limitVerdict_holding)).alike
      (Locker.alike_keepTick ..)⟩

/-- R45, R46: a record at a minute tick. -/
def Locker.minuteJudged (r : Locker) (classes : List (Option ClassEntry)) (clock : Option Nat) : Locker :=
  match r.order with
  | none => r
  | some o =>
    match r.state with
    | .reserved => if isDue clock o.collectBy then r.toVacant else r
    | .holding =>
      match r.figures classes with
      | none => r
      | some c => if isDue clock (expiryMinute o c) then r.toRetired .expired else r
    | _ => r

theorem State.judgeMinute_locker? (s : State) (i j : Nat) :
    (s.judgeMinute i).locker? j = if j = i then
      (s.locker? j).map fun r => r.minuteJudged s.time.classes s.time.clock else s.locker? j := by
  cases h : s.locker? i with
  | none => by_cases hj : j = i <;> simp [State.judgeMinute, h, hj]
  | some r =>
    cases ho : r.order with
    | none => by_cases hj : j = i <;> simp [State.judgeMinute, Locker.minuteJudged, h, ho, hj]
    | some o =>
      cases hs : r.state
      case reserved =>
        by_cases hd : isDue s.time.clock o.collectBy = true <;> by_cases hj : j = i <;>
          simp [State.judgeMinute, Locker.minuteJudged, h, ho, hs, hd, hj]
      case holding =>
        cases hf : r.figures s.time.classes with
        | none => by_cases hj : j = i <;> simp [State.judgeMinute, Locker.minuteJudged, h, ho, hs, hf, hj]
        | some c =>
          by_cases hd : isDue s.time.clock (expiryMinute o c) = true <;> by_cases hj : j = i <;>
            simp [State.judgeMinute, Locker.minuteJudged, h, ho, hs, hf, hd, hj]
      all_goals by_cases hj : j = i <;> simp [State.judgeMinute, Locker.minuteJudged, h, ho, hs, hj]

@[simp] theorem State.judgeMinute_frame (s : State) (i : Nat) :
    (s.judgeMinute i).straps = s.straps ∧ (s.judgeMinute i).time = s.time ∧ (s.judgeMinute i).scanAt = s.scanAt ∧
    (s.judgeMinute i).latch = s.latch ∧ (s.judgeMinute i).keypad = s.keypad ∧ (s.judgeMinute i).book = s.book ∧
    (s.judgeMinute i).share = s.share ∧ (s.judgeMinute i).grant = s.grant ∧ (s.judgeMinute i).cip = s.cip ∧
    (s.judgeMinute i).lamp = s.lamp ∧ (s.judgeMinute i).pins = s.pins ∧ (s.judgeMinute i).count = s.count ∧
    (s.judgeMinute i).line.listenOnly = s.line.listenOnly := by
  unfold State.judgeMinute
  repeat' split
  all_goals simp

theorem Locker.follows_minuteJudged (r : Locker) (classes : List (Option ClassEntry)) (clock : Option Nat) :
    r.Follows (r.minuteJudged classes clock) := by
  unfold Locker.minuteJudged
  cases r.order with
  | none => exact .refl r
  | some o =>
    cases hs : r.state
    case reserved =>
      dsimp only
      split
      · exact Locker.follows_lapsed hs
      · exact .refl r
    case holding =>
      dsimp only
      split
      · exact .refl r
      · split
        · exact Locker.follows_retiredFor (why := some .expired) fun _ => hs
        · exact .refl r
    all_goals exact .refl r

theorem recordsFollow_execMinuteTick {s t : State} (h : execMinuteTick s = .next t) : s.RecordsFollow t := by
  obtain rfl := Host.Outcome.next.inj h
  refine State.RecordsFollow.recomputeAll ⟨?_, fun j r hr => ?_⟩
  · exact State.forEach_keeps (P := fun t => t.count = s.count) (by simp) fun t i _ ht => by simpa using ht
  · rw [State.forEach_locker? (P := fun t => t.time = s.time.minuteTick) (f := State.judgeMinute)
      (g := fun r => r.minuteJudged s.time.classes s.time.minuteTick.clock) rfl (fun t i ht => by simpa using ht)
      (fun t i j ht => by rw [State.judgeMinute_locker?, ht]; rfl)]
    exact ⟨_, by simp [hr]; rfl, r.follows_minuteJudged ..⟩

end Sys2Proof.Machine
end

section
namespace Sys2Proof.Machine

/-! ### Rows that leave the records, the latch driver and the cadences alone -/

/-- The straps, the Timebase, the scan and the cadences stand, and a listen-only station stays so. -/
structure State.Stands (s t : State) : Prop where
  straps : t.straps = s.straps
  time : t.time = s.time
  scanAt : t.scanAt = s.scanAt
  share : t.share.cadence = s.share.cadence
  grant : t.grant.cadence = s.grant.cadence
  lamp : t.lamp.cadence = s.lamp.cadence
  listenOnly : s.line.listenOnly = true → t.line.listenOnly = true

/-- The records and the latch driver stand as well. -/
structure State.Quiet (s t : State) : Prop extends State.Stands s t where
  lockers : t.lockers = s.lockers
  latch : t.latch = s.latch

theorem State.Stands.refl (s : State) : s.Stands s := by constructor <;> simp

theorem State.Stands.trans {s t u : State} (h : s.Stands t) (h' : t.Stands u) : s.Stands u where
  straps := h'.straps.trans h.straps
  time := h'.time.trans h.time
  scanAt := h'.scanAt.trans h.scanAt
  share := h'.share.trans h.share
  grant := h'.grant.trans h.grant
  lamp := h'.lamp.trans h.lamp
  listenOnly hl := h'.listenOnly (h.listenOnly hl)

theorem State.Quiet.refl (s : State) : s.Quiet s := ⟨.refl s, rfl, rfl⟩

theorem State.Quiet.trans {s t u : State} (h : s.Quiet t) (h' : t.Quiet u) : s.Quiet u :=
  ⟨h.toStands.trans h'.toStands, h'.lockers.trans h.lockers, h'.latch.trans h.latch⟩

/-! Each operation on one block, after a quiet run. -/

section
variable {s t : State} (h : s.Quiet t)
include h

theorem State.Quiet.withLine {l : Line} (hl : t.line.listenOnly = true → l.listenOnly = true) :
    s.Quiet (t.withLine l) := h.trans ⟨⟨rfl, rfl, rfl, rfl, rfl, rfl, hl⟩, rfl, rfl⟩

theorem State.Quiet.withKeypad (k : Keypad) : s.Quiet (t.withKeypad k) :=
  h.trans ⟨⟨rfl, rfl, rfl, rfl, rfl, rfl, id⟩, rfl, rfl⟩

theorem State.Quiet.withPins (p : Pins) : s.Quiet (t.withPins p) := h.trans ⟨⟨rfl, rfl, rfl, rfl, rfl, rfl, id⟩, rfl, rfl⟩

theorem State.Quiet.withCip (c : Cip) : s.Quiet (t.withCip c) := h.trans ⟨⟨rfl, rfl, rfl, rfl, rfl, rfl, id⟩, rfl, rfl⟩

theorem State.Quiet.withBook (b : List BookEntry) : s.Quiet (t.withBook b) :=
  h.trans ⟨⟨rfl, rfl, rfl, rfl, rfl, rfl, id⟩, rfl, rfl⟩

theorem State.Quiet.withShare {x : Share} (hx : x.cadence = t.share.cadence) : s.Quiet (t.withShare x) :=
  h.trans ⟨⟨rfl, rfl, rfl, hx, rfl, rfl, id⟩, rfl, rfl⟩

theorem State.Quiet.withGrant {x : Grant} (hx : x.cadence = t.grant.cadence) : s.Quiet (t.withGrant x) :=
  h.trans ⟨⟨rfl, rfl, rfl, rfl, hx, rfl, id⟩, rfl, rfl⟩

theorem State.Quiet.withLamp {x : LampChain} (hx : x.cadence = t.lamp.cadence) : s.Quiet (t.withLamp x) :=
  h.trans ⟨⟨rfl, rfl, rfl, rfl, rfl, hx, id⟩, rfl, rfl⟩

theorem State.Quiet.handOrder (f : OrderFrame) : s.Quiet (t.handOrder f) := h.withLine (by simp)

theorem State.Quiet.isolate : s.Quiet t.isolate := h.trans ⟨by constructor <;> simp, by simp, by simp⟩

theorem State.Quiet.demandCompleted : s.Quiet t.demandCompleted := by
  rcases t.demandCompleted_cases with ⟨-, -, -, hd⟩ | ⟨-, hd⟩ <;> rw [hd] <;> exact h.withShare rfl

end

theorem State.Quiet.ite {s t u : State} {p : Prop} [Decidable p] (ht : s.Quiet t) (hu : s.Quiet u) :
    s.Quiet (if p then t else u) := by
  split
  · exact ht
  · exact hu

theorem State.quiet_reassert (s : State) (i : Nat) : s.Quiet (s.reassert i) := by
  rcases s.reassert_cases i with h | ⟨r, o, -, -, h⟩ <;> rw [h]
  · exact .refl s
  · exact (State.Quiet.refl s).handOrder _

theorem State.Quiet.foldl {α : Type} {s : State} {f : State → α → State} (hf : ∀ (t : State) a, t.Quiet (f t a))
    (l : List α) : s.Quiet (l.foldl f s) := by
  induction l generalizing s with
  | nil => exact .refl s
  | cons a l ih => exact (hf s a).trans ih

/-! ### Replies -/

/-- R139, R158: the reports of replies make one warm restart at most. -/
theorem State.reportAll_cases (s : State) (fs : List ReplyFrame) :
    fs.foldl State.reportReply s = s ∨ fs.foldl State.reportReply s = s.warmRestart := by
  have hfree : ∀ (fs : List ReplyFrame) (t : State), t.cip.proc = .free → fs.foldl State.reportReply t = t := by
    intro fs
    induction fs with
    | nil => intro t _; rfl
    | cons f fs ih =>
      intro t ht
      rw [List.foldl_cons, show t.reportReply f = t by simp [State.reportReply, ht]]
      exact ih t ht
  induction fs with
  | nil => exact .inl rfl
  | cons f fs ih =>
    rw [List.foldl_cons]
    rcases s.reportReply_cases f with h | ⟨-, -, h⟩ <;> rw [h]
    · exact ih
    · exact .inr (hfree fs _ (by simp [Cip.init]))

/-- A row that is quiet, or quiet up to a warm restart at its end (R158). -/
def State.QuietOrRestart (s t : State) : Prop := s.Quiet t ∨ ∃ u, s.Quiet u ∧ t = u.warmRestart

theorem State.Quiet.reportReply {s t : State} (h : s.Quiet t) (f : ReplyFrame) : s.QuietOrRestart (t.reportReply f) := by
  rcases t.reportReply_cases f with hr | ⟨-, -, hr⟩ <;> rw [hr]
  · exact .inl h
  · exact .inr ⟨t, h, rfl⟩

theorem State.Quiet.reportAll {s t : State} (h : s.Quiet t) (fs : List ReplyFrame) :
    s.QuietOrRestart (fs.foldl State.reportReply t) := by
  rcases t.reportAll_cases fs with hr | hr <;> rw [hr]
  · exact .inl h
  · exact .inr ⟨t, h, rfl⟩

theorem State.Quiet.handReply {s t : State} (h : s.Quiet t) (f : ReplyFrame) : s.QuietOrRestart (t.handReply f) := by
  rcases t.handReply_cases f with ⟨-, -, hr⟩ | ⟨-, hr⟩ <;> rw [hr]
  · exact .inl (h.withLine id)
  · exact h.reportReply f

/-- R158: a reply whose report makes no warm restart, by its kind or by the processor's state. -/
theorem State.quiet_handReply {s : State} {f : ReplyFrame} (h : ¬ (s.cip.proc = .restarting ∧ f.endsRestart = true)) :
    s.Quiet (s.handReply f) := by
  rcases s.handReply_cases f with ⟨-, -, hr⟩ | ⟨-, hr⟩ <;> rw [hr]
  · exact (State.Quiet.refl s).withLine id
  · rw [State.reportReply, if_neg h]; exact .refl s

theorem State.quiet_answer {s : State} (c : CommandFrame) (a : Answer) (h : s.cip.proc ≠ .restarting) :
    s.Quiet (s.answer c a) := by
  unfold State.answer
  split
  · exact .refl s
  · exact State.quiet_handReply fun hc => h hc.1

theorem State.quiet_answerNow {s : State} (c : CommandFrame) {f : ReplyFrame} (h : f.endsRestart = false) :
    s.Quiet (s.answerNow c f) := by
  unfold State.answerNow
  split
  · exact State.quiet_handReply (by simp [h])
  · exact .refl s

/-- R149, R150: the processor takes nothing, or the oldest command, which it answers. -/
theorem State.takeVerb_cases (s : State) (isVerb : CommandFrame → Bool)
    (rule : CommandFrame → State → State × Answer) :
    s.takeVerb isVerb rule = s ∨ ∃ c rest, s.cip.inbox = c :: rest ∧ s.cip.proc = .free ∧ isVerb c = true ∧
      s.takeVerb isVerb rule = (rule c (s.withCip { s.cip with inbox := rest })).1.answer c
        (rule c (s.withCip { s.cip with inbox := rest })).2 := by
  unfold State.takeVerb
  split
  · exact .inl rfl
  next c rest hi =>
    split
    next hc =>
      simp only [State.canTake, Bool.and_eq_true, beq_iff_eq] at hc
      exact .inr ⟨c, rest, hi, hc.1.1, hc.2, rfl⟩
    · exact .inl rfl

/-- A verb whose rule is quiet and leaves the processor FREE. -/
theorem State.quiet_takeVerb (s : State) (isVerb : CommandFrame → Bool) {rule : CommandFrame → State → State × Answer}
    (hr : ∀ c u, u.Quiet (rule c u).1 ∧ (rule c u).1.cip = u.cip) : s.Quiet (s.takeVerb isVerb rule) := by
  rcases s.takeVerb_cases isVerb rule with h | ⟨c, rest, -, hp, -, h⟩ <;> rw [h]
  · exact .refl s
  · obtain ⟨hq, hc⟩ := hr c (s.withCip { s.cip with inbox := rest })
    exact (((State.Quiet.refl s).withCip _).trans hq).trans (State.quiet_answer c _ (by rw [hc]; simp [hp]))

/-! ### The quiet rows -/

theorem quiet_execCommand {s t : State} {src dest verb : Nat} {ops : List Nat}
    (h : execCommand src dest verb ops s = .next t) : s.Quiet t := by
  obtain rfl := Host.Outcome.next.inj h
  split
  · exact .refl s
  · dsimp only
    have hg : ∀ (l : List CommandFrame) (x : Cip),
        s.Quiet (l.foldl (fun s h => s.answerNow h (s.supersededReply h)) (s.withCip x)) := fun l x =>
      ((State.Quiet.refl s).withCip x).trans (State.Quiet.foldl (fun t c => State.quiet_answerNow c rfl) l)
    split
    · exact State.Quiet.withCip (hg _ _) _
    · exact (hg _ _).trans (State.quiet_answerNow _ (by simp [ReplyFrame.endsRestart, busyReply]))

theorem quietOrRestart_execRestart {s t : State} (h : execRestart s = .next t) : s.QuietOrRestart t := by
  obtain rfl := Host.Outcome.next.inj h
  rcases s.takeVerb_cases (CommandFrame.isVerb verbRestart) _ with h | ⟨c, rest, -, -, -, h⟩ <;> rw [h]
  · exact .inl (.refl s)
  · have hq : s.Quiet ((s.withCip { s.cip with inbox := rest }).withCip ⟨rest, .restarting⟩) :=
      ((State.Quiet.refl s).withCip _).withCip _
    unfold State.answer
    by_cases hd : c.dest = 31
    · simp only [hd, if_true]
      exact .inr ⟨_, hq, rfl⟩
    · simp only [hd, if_false]
      exact hq.handReply _

theorem quietOrRestart_execTransmissionComplete {s t : State} (h : execTransmissionComplete s = .next t) :
    s.QuietOrRestart t := by
  obtain rfl := Host.Outcome.next.inj h
  split
  · split
    · exact .inl (State.Quiet.demandCompleted ((State.Quiet.refl s).withLine id))
    · exact .inl (.refl s)
  next a _ =>
    have hq : s.Quiet (s.withLine (s.line.sent a.list).settle) :=
      (State.Quiet.refl s).withLine fun hl => by cases a.list <;> exact hl
    dsimp only
    split
    · split
      · exact hq.reportReply _
      · exact .inl hq
    · exact .inl hq.demandCompleted
    · exact .inl hq
    · exact .inl hq

theorem quietOrRestart_execCollision {s t : State} (h : execCollision s = .next t) : s.QuietOrRestart t := by
  obtain rfl := Host.Outcome.next.inj h
  split
  · exact .inl (.refl s)
  next a _ =>
    have hl : (s.line.collided a.settles).listenOnly = s.line.listenOnly := by rw [Line.collided_eq]
    dsimp only
    split
    · split
      · split
        · exact State.Quiet.reportReply ((State.Quiet.refl s).withLine (by simp [hl])) _
        · exact .inl ((State.Quiet.refl s).withLine (by simp [hl]))
      · exact .inl ((State.Quiet.refl s).withLine (by simp [hl]))
    all_goals exact .inl ((State.Quiet.refl s).withLine (by simp [hl]))

/-- R129: a fall out of step. -/
theorem State.Quiet.fallOutOfStep {s t : State} (h : s.Quiet t) : s.QuietOrRestart t.fallOutOfStep := by
  have hl : t.line.fallen.listenOnly = t.line.listenOnly := by
    rcases t.line.fallen_cases with ⟨-, hf⟩ | ⟨k, -, hf⟩ <;> rw [hf]
  exact State.Quiet.reportAll (State.Quiet.isolate (h.withLine (by simp [hl]))) _

theorem quietOrRestart_execJabber {s t : State} (h : execJabber s = .next t) : s.QuietOrRestart t := by
  obtain rfl := Host.Outcome.next.inj h
  split
  · dsimp only
    split
    · exact State.Quiet.fallOutOfStep ((State.Quiet.refl s).withLine id)
    · exact .inl ((State.Quiet.refl s).withLine id)
  · exact .inl (.refl s)

theorem quietOrRestart_execLossOfStep {s t : State} (h : execLossOfStep s = .next t) : s.QuietOrRestart t := by
  obtain rfl := Host.Outcome.next.inj h
  split
  · exact State.Quiet.fallOutOfStep ((State.Quiet.refl s).withLine id)
  · exact .inl (State.Quiet.withLine (State.Quiet.withLine (.refl s) id) id)

theorem quietOrRestart_execAddressClash {s t : State} (h : execAddressClash s = .next t) : s.QuietOrRestart t := by
  obtain rfl := Host.Outcome.next.inj h
  split
  · exact .inl (.refl s)
  · have hq : s.Quiet (s.withLine s.line.clashed) := (State.Quiet.refl s).withLine fun _ => rfl
    exact (hq.withCip _).isolate.reportAll _

/-- The rows that leave the records, the latch driver, the Timebase and the cadences alone, but for a warm restart that
they may bring about. -/
def besideRecords : Instr → Bool
  | .lampTestEnd | .shareTick | .grantRound | .demand .. | .offer .. | .bid .. | .resign .. | .shed .. | .notice ..
  | .reply .. | .frameDiscarded | .addressClash | .command .. | .query | .queryBank | .lampTest | .restart | .classWrite
  | .unknownVerb | .attemptStart | .transmissionComplete | .collision | .lineSettled | .inStep | .jabber | .lossOfStep
  | .lineFaultCleared | .digitKey _ | .clearKey | .keyReject .. | .keysReleased | .entryTimeout | .strikeAgedOut
  | .lockoutEnd | .beeperPatternEnd | .lineActive => true
  | _ => false

theorem quiet_execOffer {s t : State} {src order cls collectBy digits : Nat}
    (h : execOffer src order cls collectBy digits s = .next t) : s.Quiet t := by
  obtain rfl := Host.Outcome.next.inj h
  split
  · exact .refl s
  · split
    · exact s.quiet_reassert _
    · split
      · exact .refl s
      · split
        · split
          · exact ((State.Quiet.refl s).withBook _).handOrder _
          · exact .refl s
        · exact .refl s

theorem State.quiet_agePeerTable (s : State) : s.Quiet s.agePeerTable := (State.Quiet.refl s).withShare rfl

theorem State.Quiet.countUnsent {s t : State} (h : s.Quiet t) : s.Quiet t.countUnsent := by
  unfold State.countUnsent
  exact .ite (State.Quiet.isolate (h.withShare rfl)) (h.withShare rfl)

theorem State.Quiet.setAllowance {s t : State} (h : s.Quiet t) : s.Quiet t.setAllowance := by
  unfold State.setAllowance
  dsimp only
  refine State.Quiet.withGrant (h.withShare ?_) ?_ <;> rfl

theorem State.Quiet.announce {s t : State} (h : s.Quiet t) : s.Quiet t.announce := by
  have hl : ∀ (l : Line) (f : DemandFrame), (l.refillDemand f).listenOnly = l.listenOnly := by
    intro l f; unfold Line.refillDemand; split <;> rfl
  unfold State.announce
  dsimp only
  refine State.Quiet.withLine (h.withShare ?_) ?_
  · rfl
  · simp [hl]

theorem Share.indicate_countJoin_cadence (x : Share) (usable : Nat) :
    (x.countJoin.indicate usable).cadence = x.cadence := by
  simp only [Share.indicate, Share.countJoin]; split <;> rfl

theorem quiet_execShareTick {s t : State} (h : execShareTick s = .next t) : s.Quiet t := by
  obtain rfl := Host.Outcome.next.inj h
  exact State.Quiet.announce
    (s.quiet_agePeerTable.countUnsent.setAllowance.withShare (Share.indicate_countJoin_cadence ..))

theorem quiet_takeClass (s : State) : s.Quiet s.takeClass := by
  unfold State.takeClass
  split
  · exact .refl s
  · split
    next hc =>
      have hp : s.cip.proc = .free := by
        simp only [State.canTake, Bool.and_eq_true, beq_iff_eq] at hc
        exact hc.1.1
      dsimp only
      split
      · exact ((State.Quiet.refl s).withCip _).trans (State.quiet_answer _ _ (by simp [hp]))
      · split
        · exact ((State.Quiet.refl s).withCip _).withCip _
        · exact ((State.Quiet.refl s).withCip _).trans (State.quiet_answer _ _ (by simp [hp]))
    · exact .refl s

theorem exec_besideRecords {c : Instr} {s t : State} (hc : besideRecords c = true) (h : exec c s = .next t) :
    s.QuietOrRestart t := by
  cases c <;> simp only [besideRecords, reduceCtorEq] at hc
  case addressClash => exact quietOrRestart_execAddressClash h
  case restart => exact quietOrRestart_execRestart h
  case transmissionComplete => exact quietOrRestart_execTransmissionComplete h
  case collision => exact quietOrRestart_execCollision h
  case jabber => exact quietOrRestart_execJabber h
  case lossOfStep => exact quietOrRestart_execLossOfStep h
  all_goals refine .inl ?_
  case command => exact quiet_execCommand h
  case offer src order cls collectBy digits => exact quiet_execOffer (src := src) h
  case shareTick => exact quiet_execShareTick h
  all_goals obtain rfl := Host.Outcome.next.inj h
  case lampTestEnd => exact (State.Quiet.refl s).withLamp rfl
  case grantRound => split <;> exact (State.Quiet.refl s).withGrant rfl
  case demand =>
    split
    · exact .refl s
    · split
      · exact .refl s
      · exact (State.Quiet.refl s).withShare rfl
  case bid => exact (State.Quiet.refl s).withBook _
  case resign => exact .refl s
  case shed => exact (State.Quiet.refl s).withGrant rfl
  case notice => exact .refl s
  case reply => exact .refl s
  case frameDiscarded =>
    split
    · exact (State.Quiet.refl s).withLine id
    · exact .refl s
    · exact .refl s
  case query =>
    refine s.quiet_takeVerb _ fun c u => ?_
    unfold queryRule
    split <;> exact ⟨.refl u, rfl⟩
  case queryBank => exact s.quiet_takeVerb _ fun c u => ⟨.refl u, rfl⟩
  case lampTest =>
    refine s.quiet_takeVerb _ fun c u => ?_
    unfold lampTestRule
    split
    · exact ⟨(State.Quiet.refl u).withLamp rfl, rfl⟩
    · exact ⟨.refl u, rfl⟩
  case classWrite => exact quiet_takeClass s
  case unknownVerb => exact s.quiet_takeVerb _ fun c u => ⟨.refl u, rfl⟩
  case attemptStart =>
    split
    · exact .refl s
    · split
      · exact (State.Quiet.refl s).withLine id
      · exact .refl s
  case lineSettled =>
    split
    · exact (State.Quiet.refl s).withLine id
    · exact .refl s
  case inStep =>
    split
    · exact (State.Quiet.refl s).withLine id
    · exact .refl s
  case lineFaultCleared => exact (State.Quiet.refl s).withLine id
  case digitKey =>
    split
    · dsimp only
      split
      · exact ((State.Quiet.refl s).withKeypad _).withPins _
      · exact (((State.Quiet.refl s).withKeypad _).withPins _).withKeypad _
    · exact .refl s
  case clearKey =>
    split
    · dsimp only
      split
      · exact ((State.Quiet.refl s).withKeypad _).withPins _
      · exact (((State.Quiet.refl s).withKeypad _).withPins _).withKeypad _
    · exact .refl s
  case keyReject => exact ((State.Quiet.refl s).withKeypad _).withPins _
  case keysReleased => exact ((State.Quiet.refl s).withKeypad _).withPins _
  case entryTimeout =>
    split
    · exact (State.Quiet.refl s).withKeypad _
    · exact .refl s
  case strikeAgedOut => exact (State.Quiet.refl s).withKeypad _
  case lockoutEnd => exact (State.Quiet.refl s).withKeypad _
  case beeperPatternEnd => exact (State.Quiet.refl s).withKeypad _
  case lineActive =>
    split
    · exact .refl s
    · exact (State.Quiet.refl s).withLine id

end Sys2Proof.Machine
end

section
namespace Sys2Proof.Machine

/-! ### Records before and after a quiet run -/

theorem State.Quiet.locker? {s t : State} (h : s.Quiet t) (j : Nat) : t.locker? j = s.locker? j := by
  simp [State.locker?, h.lockers]

theorem State.Quiet.count {s t : State} (h : s.Quiet t) : t.count = s.count := by simp [State.count, h.lockers]

theorem State.Quiet.recordsFollow {s t u : State} (h : s.Quiet t) (h' : t.RecordsFollow u) : s.RecordsFollow u :=
  ⟨h'.1.trans h.count, fun j r hj => h'.2 j r (by rw [h.locker? j, hj])⟩

theorem State.QuietOrRestart.recordsFollow {s t : State} (h : s.QuietOrRestart t) : s.RecordsFollow t := by
  rcases h with h | ⟨u, h, rfl⟩
  · exact State.recordsFollow_of_lockers h.lockers
  · exact h.recordsFollow u.recordsFollow_warmRestart

/-! ### Verbs, entries and claims: the moves of one record (R25, R118, R151 to R154) -/

/-- R3 to R10: what a verb, a good entry or a rival CLAIM makes of the records. -/
inductive State.Moved (u : State) : State → Prop
  | quiet {t} : u.Quiet t → u.Moved t
  | load {i r} : u.locker? i = some r → r.state = .reserved →
      u.Moved (((u.modLocker i fun r => { r with state := .loading }).beginCycle i).recompute i)
  | release {i r} : u.locker? i = some r → r.state = .holding →
      u.Moved (((u.modLocker i fun r => { r with state := .releasing }).beginCycle i).recompute i)
  | cancel {i r} : u.locker? i = some r → r.state = .reserved → u.Moved ((u.vacate i).recompute i)
  | pend {i r} : u.locker? i = some r → r.state = .loading →
      u.Moved (u.modLocker i fun r => { r with voidPending := true })
  | void {i r} : u.locker? i = some r → r.state = .holding → u.Moved ((u.retire i .voided).recompute i)
  | clear {i r} : u.locker? i = some r → r.swept = true → (r.state = .retired ∨ r.state = .fault ∨ r.state = .blocked) →
      r.cycle = .none → u.Moved (u.beginCycle i)
  | block {i r} : u.locker? i = some r → r.swept = true → r.state = .vacant →
      u.Moved ((u.modLocker i fun r => { r with state := .blocked }).recompute i)
  | unblock {i r} : u.locker? i = some r → r.state = .blocked →
      u.Moved ((u.modLocker i Locker.unblocked).recompute i)

theorem State.Moved.refl (u : State) : u.Moved u := .quiet (.refl u)

/-- A move between two quiet runs. -/
def State.Moves (s t : State) : Prop := ∃ u v, s.Quiet u ∧ u.Moved v ∧ v.Quiet t

theorem State.Quiet.moves {s t : State} (h : s.Quiet t) : s.Moves t := ⟨s, t, .refl s, .quiet h, .refl t⟩

theorem State.Moved.moves {s t : State} (h : s.Moved t) : s.Moves t := ⟨s, t, .refl s, h, .refl t⟩

theorem State.Moves.quiet {s t u : State} (h : s.Moves t) (h' : t.Quiet u) : s.Moves u := by
  obtain ⟨a, b, ha, hm, hb⟩ := h
  exact ⟨a, b, ha, hm, hb.trans h'⟩

theorem State.Quiet.movesOf {s t u : State} (h : s.Quiet t) (h' : t.Moves u) : s.Moves u := by
  obtain ⟨a, b, ha, hm, hb⟩ := h'
  exact ⟨a, b, h.trans ha, hm, hb⟩

/-- R149: a verb moves what its rule moves. -/
theorem State.moves_takeVerb (s : State) (isVerb : CommandFrame → Bool) {rule : CommandFrame → State → State × Answer}
    (hr : ∀ c u, (rule c u).1.cip = u.cip ∧ u.Moves (rule c u).1) : s.Moves (s.takeVerb isVerb rule) := by
  rcases s.takeVerb_cases isVerb rule with h | ⟨c, rest, -, hp, -, h⟩ <;> rw [h]
  · exact (State.Quiet.refl s).moves
  · obtain ⟨hc, hm⟩ := hr c (s.withCip { s.cip with inbox := rest })
    exact (((State.Quiet.refl s).withCip _).movesOf hm).quiet (State.quiet_answer c _ (by rw [hc]; simp [hp]))

/-- R150 step 2: COMMISSION refuses a verb, or its rule is applied. -/
theorem moves_inService {rule : CommandFrame → State → State × Answer}
    (hr : ∀ c u, (rule c u).1.cip = u.cip ∧ u.Moves (rule c u).1) (c : CommandFrame) (u : State) :
    (inService rule c u).1.cip = u.cip ∧ u.Moves (inService rule c u).1 := by
  unfold inService
  split
  · exact ⟨rfl, (State.Quiet.refl u).moves⟩
  · exact hr c u

theorem moves_loadRule (c : CommandFrame) (u : State) : (loadRule c u).1.cip = u.cip ∧ u.Moves (loadRule c u).1 := by
  unfold loadRule
  split
  · exact ⟨rfl, (State.Quiet.refl u).moves⟩
  · split
    · exact ⟨rfl, (State.Quiet.refl u).moves⟩
    next r hr =>
      split
      next hs => exact ⟨by simp, (State.Moved.load hr hs).moves⟩
      · exact ⟨rfl, (State.Quiet.refl u).moves⟩
      · exact ⟨rfl, (State.Quiet.refl u).moves⟩

theorem moves_voidRule (c : CommandFrame) (u : State) : (voidRule c u).1.cip = u.cip ∧ u.Moves (voidRule c u).1 := by
  unfold voidRule
  split
  · split
    · exact ⟨rfl, ((State.Quiet.refl u).withBook _).moves⟩
    · exact ⟨rfl, (State.Quiet.refl u).moves⟩
  next i _ =>
    split
    · exact ⟨rfl, (State.Quiet.refl u).moves⟩
    next r hr =>
      have hn : u.Quiet (u.notify i .cancelled .none r.orderNumber) := (State.Quiet.refl u).withLine (by simp)
      split
      next hs => exact ⟨by simp, hn.movesOf (State.Moved.cancel (by simpa using hr) hs).moves⟩
      next hs => exact ⟨by simp, (State.Moved.pend hr hs).moves⟩
      next hs => exact ⟨by simp, (State.Moved.void hr hs).moves⟩
      all_goals exact ⟨rfl, (State.Quiet.refl u).moves⟩

/-- R153, R154: a locker verb moves what its rule moves of a swept record. -/
theorem moves_lockerRule {rule : Nat → Locker → State → State × Answer}
    (hr : ∀ i r u, u.locker? i = some r → r.swept = true → (rule i r u).1.cip = u.cip ∧ u.Moves (rule i r u).1)
    (c : CommandFrame) (u : State) : (lockerRule rule c u).1.cip = u.cip ∧ u.Moves (lockerRule rule c u).1 := by
  unfold lockerRule
  split
  · exact ⟨rfl, (State.Quiet.refl u).moves⟩
  next r h =>
    split
    next hs => exact hr _ r u h hs
    · exact ⟨rfl, (State.Quiet.refl u).moves⟩

theorem moves_clearRule {i : Nat} {r : Locker} {u : State} (h : u.locker? i = some r) (hs : r.swept = true) :
    (clearRule i r u).1.cip = u.cip ∧ u.Moves (clearRule i r u).1 := by
  unfold clearRule
  split
  next hst =>
    dsimp only
    split
    next hc => exact ⟨by simp, (State.Moved.clear h hs hst hc).moves⟩
    · exact ⟨rfl, (State.Quiet.refl u).moves⟩
  · exact ⟨rfl, (State.Quiet.refl u).moves⟩

theorem moves_blockRule {i : Nat} {r : Locker} {u : State} (h : u.locker? i = some r) (hs : r.swept = true) :
    (blockRule i r u).1.cip = u.cip ∧ u.Moves (blockRule i r u).1 := by
  unfold blockRule
  split
  next hst => exact ⟨by simp, (State.Moved.block h hs hst).moves⟩
  · exact ⟨rfl, (State.Quiet.refl u).moves⟩

theorem moves_unblockRule {i : Nat} {r : Locker} {u : State} (h : u.locker? i = some r) :
    (unblockRule i r u).1.cip = u.cip ∧ u.Moves (unblockRule i r u).1 := by
  unfold unblockRule
  split
  next hst => exact ⟨by simp, (State.Moved.unblock h hst).moves⟩
  · exact ⟨rfl, (State.Quiet.refl u).moves⟩

/-- R25: a match is RELEASED for a HOLDING record alone. -/
theorem holding_of_matchOf_released {r : Locker} {digits : Nat} (h : matchOf r digits = .released) :
    r.state = .holding := by
  unfold matchOf at h
  cases ho : r.order with
  | none => simp [ho] at h
  | some o =>
    by_cases hd : o.digits = digits <;> cases hs : r.state <;> simp [ho, hd, hs] at h ⊢

/-- R25: a match request releases a HOLDING record, or leaves the state. -/
theorem State.moves_matchRequest (s : State) (order digits : Nat) : s.Moves (s.matchRequest order digits).1 := by
  unfold State.matchRequest
  split
  · exact (State.Quiet.refl s).moves
  · split
    · exact (State.Quiet.refl s).moves
    next r hr =>
      split
      next hm => exact (State.Moved.release hr (holding_of_matchOf_released hm)).moves
      · exact (State.Quiet.refl s).moves

theorem moves_execEnterKey {s t : State} (h : execEnterKey s = .next t) : s.Moves t := by
  obtain rfl := Host.Outcome.next.inj h
  have hk : s.Quiet (s.acceptKey .enter) := ((State.Quiet.refl s).withKeypad _).withPins _
  split
  · dsimp only
    split
    · exact hk.moves
    · unfold State.judgeEntry
      dsimp only
      split
      · exact (hk.withKeypad _).moves
      · split
        · exact ((hk.withKeypad _).withKeypad _).moves
        · have hb := hk.withKeypad (s.acceptKey .enter).keypad.emptied
          exact (hb.movesOf (State.moves_matchRequest _ _ _)).quiet ((State.Quiet.refl _).withKeypad _)
  · exact (State.Quiet.refl s).moves

theorem moves_execClaim {s t : State} {src order score locker : Nat} {loaded : Bool}
    (h : execClaim src order score locker loaded s = .next t) : s.Moves t := by
  obtain rfl := Host.Outcome.next.inj h
  split
  · split
    · exact ((State.Quiet.refl s).withBook _).moves
    · exact ((State.Quiet.refl s).withBook _).moves
  · split
    next i _ =>
      unfold State.meetClaim
      split
      · exact (State.Quiet.refl s).moves
      next r hr =>
        split
        · exact (State.Quiet.refl s).moves
        · split
          next hs =>
            split
            · exact (State.Moved.cancel hr hs).moves.quiet ((State.Quiet.refl _).handOrder _)
            · exact (s.quiet_reassert _).moves
          · split
            · exact (State.Quiet.refl s).moves
            · exact (s.quiet_reassert _).moves
    · exact (State.Quiet.refl s).moves

/-- The records after a move. -/
theorem State.Moved.recordsFollow {s t : State} (h : s.Moved t) : s.RecordsFollow t := by
  cases h with
  | quiet h => exact State.recordsFollow_of_lockers h.lockers
  | @load i r hr hs =>
    refine State.RecordsFollow.recompute (State.recordsFollow_beginCycle (by simp) ?_ ?_) i
    · intro j hj; simp [hj]
    · intro r' hr'
      obtain rfl : r = r' := by simpa [hr] using hr'
      exact ⟨{ r with state := .loading }, by simp [hr], Locker.follows_loading hs⟩
  | @release i r hr hs =>
    refine State.RecordsFollow.recompute (State.recordsFollow_beginCycle (by simp) ?_ ?_) i
    · intro j hj; simp [hj]
    · intro r' hr'
      obtain rfl : r = r' := by simpa [hr] using hr'
      exact ⟨{ r with state := .releasing }, by simp [hr], Locker.follows_releasing hs⟩
  | @cancel i r hr hs =>
    refine State.RecordsFollow.recompute ?_ i
    exact State.recordsFollow_of_record hr (by simp) (fun j hj => by simp [hj]) (by simp [hr]) (Locker.follows_lapsed hs)
  | @pend i r hr hs =>
    exact State.recordsFollow_of_record hr (by simp) (fun j hj => by simp [hj]) (by simp [hr])
      (Locker.follows_voidPending hs)
  | @void i r hr hs =>
    refine State.RecordsFollow.recompute ?_ i
    exact State.recordsFollow_of_record hr (by simp) (fun j hj => by simp [hj]) (by simp [hr, Locker.retiredFor])
      (Locker.follows_retiredFor (why := some .voided) fun _ => hs)
  | @clear i r hr hs hst hc =>
    refine State.recordsFollow_beginCycle rfl (fun _ _ => rfl) fun r' hr' => ?_
    obtain rfl : r = r' := by simpa [hr] using hr'
    exact ⟨r, hr, Locker.follows_clearing hs hst hc⟩
  | @block i r hr hs hst =>
    refine State.RecordsFollow.recompute ?_ i
    exact State.recordsFollow_of_record hr (by simp) (fun j hj => by simp [hj]) (by simp [hr])
      (Locker.follows_blocked hs hst)
  | @unblock i r hr hst =>
    refine State.RecordsFollow.recompute ?_ i
    exact State.recordsFollow_of_record hr (by simp) (fun j hj => by simp [hj]) (by simp [hr])
      (Locker.follows_unblocked hst)

theorem State.Moves.recordsFollow {s t : State} (h : s.Moves t) : s.RecordsFollow t := by
  obtain ⟨u, v, hu, hm, hv⟩ := h
  exact hu.recordsFollow (hm.recordsFollow.of_lockers hv.lockers)

end Sys2Proof.Machine
end

section
namespace Sys2Proof.Machine

/-! ### Window ends (R5, R111, R112) -/

theorem State.mem_of_warmest {s : State} {l : List Nat} {i : Nat} (h : s.warmest l = some i) : i ∈ l := by
  induction l generalizing i with
  | nil => simp [State.warmest] at h
  | cons k l ih =>
    unfold State.warmest at h
    cases hw : s.warmest l with
    | none =>
      rw [hw] at h
      exact List.mem_cons.mpr (.inl (Option.some.inj h).symm)
    | some j =>
      rw [hw] at h
      dsimp only at h
      split at h
      · exact List.mem_cons.mpr (.inl (Option.some.inj h).symm)
      · exact List.mem_cons_of_mem k (Option.some.inj h ▸ ih hw)

/-- R5, R112: the locker chosen for a won order takes the reserve request. -/
theorem State.reservable_of_reserveChoice {s : State} {e : BookEntry} {i : Nat} (h : s.reserveChoice e = some i) :
    s.reservable i e.order = true := by
  unfold State.reserveChoice at h
  split at h
  next hc =>
    obtain rfl := Option.some.inj h
    exact (Bool.and_eq_true_iff.mp hc).2
  · have := State.mem_of_warmest h
    simp only [List.mem_filter, Bool.and_eq_true] at this
    exact this.2.2

theorem State.reservable_iff (s : State) (i order : Nat) : s.reservable i order = true ↔
    ∃ r, s.locker? i = some r ∧ r.swept = true ∧ r.state = .vacant ∧ r.cycle = .none ∧ s.holder? order = none := by
  unfold State.reservable
  cases s.locker? i <;> simp [and_assoc]

/-- R112: a window end is quiet, or it reserves a swept VACANT record for an order that no record holds. -/
theorem execWindowEnd_cases {s t : State} {order : Nat} (h : execWindowEnd order s = .next t) :
    s.Quiet t ∨ ∃ u e i r, s.Quiet u ∧ u.locker? i = some r ∧ r.swept = true ∧ r.state = .vacant ∧ r.cycle = .none ∧
      u.holder? e.order = none ∧ ((u.modLocker i fun r => r.reserve e).recompute i).Quiet t := by
  obtain rfl := Host.Outcome.next.inj h
  split
  · exact .inl (.refl s)
  next e _ =>
    have hu : s.Quiet (s.dropEntry order) := (State.Quiet.refl s).withBook _
    dsimp only
    split
    · split
      next i hi =>
        obtain ⟨r, hr, hs, hv, hc, hn⟩ := (State.reservable_iff ..).mp (State.reservable_of_reserveChoice hi)
        exact .inr ⟨_, e, i, r, hu, hr, hs, hv, hc, hn, (State.Quiet.refl _).handOrder _⟩
      · exact .inl hu
    · exact .inl hu

theorem Locker.fits_reserve {r : Locker} (e : BookEntry) (hv : r.state = .vacant) (hc : r.cycle = .none)
    (hs : r.swept = true) (h : r.Fits) : (r.reserve e).Fits := by
  simp only [Locker.reserve]
  grind

/-! ### The holders of orders (R3) -/

theorem Locker.holds_iff (r : Locker) (n : Nat) : r.holds n = true ↔ ∃ o, r.order = some o ∧ o.order = n := by
  unfold Locker.holds
  cases r.order <;> simp

/-- R3: no record holds the order number. -/
theorem State.holder?_eq_none_iff (s : State) (n : Nat) : s.holder? n = none ↔ s.HeldNowhere n := by
  rw [State.holder?, List.find?_eq_none]
  constructor
  · intro h i r o hr ho hn
    have := h i (State.mem_indices.mpr ⟨(State.locker?_eq_some hr).1, (State.locker?_eq_some hr).2.1⟩)
    rw [hr] at this
    exact this ((r.holds_iff n).mpr ⟨o, ho, hn⟩)
  · intro h i _ hi
    cases hr : s.locker? i with
    | none => simp [hr] at hi
    | some r =>
      rw [hr] at hi
      obtain ⟨o, ho, hn⟩ := (r.holds_iff n).mp hi
      exact h i r o hr ho hn

/-- R3: one holder for each order number, in the terms of the indices. -/
theorem State.oneHolder_iff (s : State) : s.OneHolder ↔ ∀ n i j r q o p,
    s.HeldAt n i r o → s.HeldAt n j q p → i = j := by
  unfold State.OneHolder State.heldOrders List.Nodup
  rw [List.pairwise_filterMap, List.pairwise_iff_getElem]
  constructor
  · intro h
    have hlt : ∀ n i j r q o p, s.HeldAt n i r o → s.HeldAt n j q p → ¬ i < j := by
      rintro n i j r q o p ⟨hr, ho, hn⟩ ⟨hq, hp, hm⟩ hij
      obtain ⟨hi1, hi2, hri, -⟩ := State.locker?_eq_some hr
      obtain ⟨hj1, hj2, hqj, -⟩ := State.locker?_eq_some hq
      obtain ⟨hil, hri⟩ := List.getElem?_eq_some_iff.mp hri
      obtain ⟨hjl, hqj⟩ := List.getElem?_eq_some_iff.mp hqj
      refine h (i - 1) (j - 1) hil hjl (by omega) n ?_ n ?_ rfl
      · rw [hri, ho]; simp [hn]
      · rw [hqj, hp]; simp [hm]
    intro n i j r q o p hi hj
    have h1 := hlt n i j r q o p hi hj
    have h2 := hlt n j i q r p o hj hi
    omega
  · intro h a b ha hb hab n hn m hm hnm
    subst hnm
    obtain ⟨o, ho, hon⟩ := Option.map_eq_some_iff.mp hn
    obtain ⟨p, hp, hpn⟩ := Option.map_eq_some_iff.mp hm
    have := h n (a + 1) (b + 1) s.lockers[a] s.lockers[b] o p
      ⟨by simp [State.locker?, ha], ho, hon⟩ ⟨by simp [State.locker?, hb], hp, hpn⟩
    omega

/-- R3: under one holder, the search finds the record that holds the order. -/
theorem State.holder?_of_heldAt {s : State} {n i : Nat} {r : Locker} {o : OrderPart} (h1 : s.OneHolder)
    (h : s.HeldAt n i r o) : s.holder? n = some i := by
  cases hh : s.holder? n with
  | none => exact absurd h.2.2 ((s.holder?_eq_none_iff n).mp hh i r o h.1 h.2.1)
  | some j =>
    have hj := List.find?_some hh
    cases hq : s.locker? j with
    | none => simp [hq] at hj
    | some q =>
      rw [hq] at hj
      obtain ⟨p, hp, hn⟩ := (q.holds_iff n).mp hj
      rw [(s.oneHolder_iff.mp h1) n i j r q o p h ⟨hq, hp, hn⟩]

/-! ### Every row keeps the laws of the records -/

theorem State.recordLaw_iff (s : State) : s.RecordLaw ↔ ∀ i r, s.locker? i = some r → r.Fits := by
  constructor
  · intro h i r hr
    exact h r (State.locker?_eq_some hr).2.2.2
  · intro h r hr
    obtain ⟨i, hi⟩ := State.mem_lockers_iff.mp hr
    exact h i r hi

/-- A record of the second state has one that it follows. -/
theorem State.RecordsFollow.exists_of_locker? {s t : State} (h : s.RecordsFollow t) {j : Nat} {q : Locker}
    (hq : t.locker? j = some q) : ∃ r, s.locker? j = some r ∧ r.Follows q := by
  obtain ⟨h1, h2, -, -⟩ := State.locker?_eq_some hq
  obtain ⟨r, hr⟩ := State.locker?_of_mem_indices (s := s) (State.mem_indices.mpr ⟨h1, h.1 ▸ h2⟩)
  obtain ⟨q', hq', hf⟩ := h.2 j r hr
  obtain rfl : q = q' := by simpa [hq] using hq'
  exact ⟨r, hr, hf⟩

theorem State.RecordsFollow.recordLaw {s t : State} (h : s.RecordsFollow t) (hs : s.RecordLaw) : t.RecordLaw := by
  rw [State.recordLaw_iff] at hs ⊢
  intro i q hq
  obtain ⟨r, hr, hf⟩ := h.exists_of_locker? hq
  exact hf.fits (hs i r hr)

/-- R3: a record that follows holds the order it held, or none. -/
theorem State.RecordsFollow.heldAt {s t : State} (h : s.RecordsFollow t) (hs : s.RecordLaw) {n i : Nat} {q : Locker}
    {o : OrderPart} (hq : t.HeldAt n i q o) : ∃ r, s.HeldAt n i r o := by
  obtain ⟨hq, ho, hn⟩ := hq
  obtain ⟨r, hr, hf⟩ := h.exists_of_locker? hq
  rcases hf.order ((s.recordLaw_iff.mp hs) i r hr) with he | ⟨he, -⟩
  · exact ⟨r, hr, by rw [← he, ho], hn⟩
  · simp [he] at ho

theorem State.RecordsFollow.oneHolder {s t : State} (h : s.RecordsFollow t) (hs : s.RecordLaw) (h1 : s.OneHolder) :
    t.OneHolder := by
  rw [State.oneHolder_iff] at h1 ⊢
  intro n i j r q o p hi hj
  obtain ⟨r', hr'⟩ := h.heldAt hs hi
  obtain ⟨q', hq'⟩ := h.heldAt hs hj
  exact h1 n i j r' q' o p hr' hq'

/-- R2, R3: the two laws together. -/
abbrev State.RecordLaws (s : State) : Prop := s.RecordLaw ∧ s.OneHolder

theorem State.RecordsFollow.recordLaws {s t : State} (h : s.RecordsFollow t) (hs : s.RecordLaws) : t.RecordLaws :=
  ⟨h.recordLaw hs.1, h.oneHolder hs.1 hs.2⟩

theorem recordLaws_execWindowEnd {s t : State} {order : Nat} (h : execWindowEnd order s = .next t)
    (hs : s.RecordLaws) : t.RecordLaws := by
  rcases execWindowEnd_cases h with hq | ⟨u, e, i, r, hu, hr, hsw, hv, hc, hn, ht⟩
  · exact (State.recordsFollow_of_lockers hq.lockers).recordLaws hs
  · have hul := (State.recordsFollow_of_lockers hu.lockers).recordLaws hs
    have hf : (u.modLocker i fun r => r.reserve e).RecordsFollow t :=
      ((State.recordsFollow_of_lockers rfl).recompute i).of_lockers ht.lockers
    refine hf.recordLaws ⟨?_, ?_⟩
    · rw [State.recordLaw_iff]
      intro j q hq
      by_cases hj : j = i
      · subst hj
        obtain rfl : r.reserve e = q := by simpa [hr] using hq
        exact Locker.fits_reserve e hv hc hsw ((u.recordLaw_iff.mp hul.1) j r hr)
      · exact (u.recordLaw_iff.mp hul.1) j q (by simpa [hj] using hq)
    · have hold : ∀ n j q o, (u.modLocker i fun r => r.reserve e).HeldAt n j q o →
          (j = i ∧ n = e.order) ∨ (j ≠ i ∧ u.HeldAt n j q o) := by
        rintro n j q o ⟨hq, ho, hon⟩
        by_cases hj : j = i
        · subst hj
          obtain rfl : r.reserve e = q := by simpa [hr] using hq
          simp only [Locker.reserve, Option.some.injEq] at ho
          exact .inl ⟨rfl, by rw [← hon, ← ho]⟩
        · exact .inr ⟨hj, by simpa [hj] using hq, ho, hon⟩
      have hnone := (u.holder?_eq_none_iff e.order).mp hn
      rw [State.oneHolder_iff]
      intro n a b q p o o' ha hb
      rcases hold n a q o ha with ⟨hai, han⟩ | ⟨-, hau⟩ <;> rcases hold n b p o' hb with ⟨hbi, hbn⟩ | ⟨-, hbu⟩
      · rw [hai, hbi]
      · exact absurd (han ▸ hbu.2.2) (hnone b p o' hbu.1 hbu.2.1)
      · exact absurd (hbn ▸ hau.2.2) (hnone a q o hau.1 hau.2.1)
      · exact (u.oneHolder_iff.mp hul.2) n a b q p o o' hau hbu

end Sys2Proof.Machine
end

section
namespace Sys2Proof.Machine

/-! ### All rows -/

/-- R159: the end of a store write changes the class table and the store, the processor and the reply list alone. -/
theorem execClassWriteEnd_cases {s t : State} (h : execClassWriteEnd s = .next t) :
    s.Quiet t ∨ ∃ w, s.cip.proc = .writing w ∧ (s.withTime (s.time.writeClass w)).Quiet t := by
  obtain rfl := Host.Outcome.next.inj h
  split
  next w hw =>
    refine .inr ⟨w, hw, ?_⟩
    have hq := (State.Quiet.refl (s.withTime (s.time.writeClass w))).withCip { s.cip with proc := .free }
    dsimp only
    split
    · exact hq
    · exact hq.trans (State.quiet_handReply (by simp))
  · exact .inl (.refl s)
  · exact .inl (.refl s)

theorem recordsFollow_exec {c : Instr} {s t : State} (hp : ∀ p, c ≠ .powerOnReset p) (hw : ∀ n, c ≠ .windowEnd n)
    (h : exec c s = .next t) : s.RecordsFollow t := by
  by_cases hb : besideRecords c = true
  · exact (exec_besideRecords hb h).recordsFollow
  cases c <;> simp only [besideRecords, not_true_eq_false] at hb
  case powerOnReset p => exact absurd rfl (hp p)
  case windowEnd n => exact absurd rfl (hw n)
  case warmRestart =>
    obtain rfl := Host.Outcome.next.inj h
    exact s.recordsFollow_warmRestart
  case firstSweepReading => exact recordsFollow_execFirstSweepReading h
  case probeSample => exact recordsFollow_execProbeSample h
  case doorOpened => exact recordsFollow_execDoorOpened h
  case doorClosed => exact recordsFollow_execDoorClosed h
  case trayAppeared i =>
    obtain rfl := Host.Outcome.next.inj h
    exact recordsFollow_trayChange s i true
  case trayRemoved i =>
    obtain rfl := Host.Outcome.next.inj h
    exact recordsFollow_trayChange s i false
  case ajar => exact recordsFollow_execAjar h
  case openWaitExpired => exact recordsFollow_execOpenWaitExpired h
  case pulseEnded => exact recordsFollow_execPulseEnded h
  case secondTick => exact recordsFollow_execSecondTick h
  case minuteTick => exact recordsFollow_execMinuteTick h
  case claim src order score locker loaded => exact (moves_execClaim (src := src) (locker := locker) h).recordsFollow
  case enterKey => exact (moves_execEnterKey h).recordsFollow
  case load =>
    obtain rfl := Host.Outcome.next.inj h
    exact (s.moves_takeVerb _ (moves_inService moves_loadRule)).recordsFollow
  case void =>
    obtain rfl := Host.Outcome.next.inj h
    exact (s.moves_takeVerb _ (moves_inService moves_voidRule)).recordsFollow
  case clear =>
    obtain rfl := Host.Outcome.next.inj h
    exact (s.moves_takeVerb _ (moves_inService (moves_lockerRule fun _ _ _ => moves_clearRule))).recordsFollow
  case block =>
    obtain rfl := Host.Outcome.next.inj h
    exact (s.moves_takeVerb _ (moves_inService (moves_lockerRule fun _ _ _ => moves_blockRule))).recordsFollow
  case unblock =>
    obtain rfl := Host.Outcome.next.inj h
    exact (s.moves_takeVerb _ (moves_inService (moves_lockerRule fun _ _ _ h _ => moves_unblockRule h))).recordsFollow
  case time =>
    obtain rfl := Host.Outcome.next.inj h
    split
    · exact (State.recordsFollow_of_lockers rfl).recomputeAll
    · exact State.recordsFollow_of_lockers rfl
  case classWriteEnd =>
    rcases execClassWriteEnd_cases h with hq | ⟨w, -, hq⟩ <;> exact State.recordsFollow_of_lockers hq.lockers
  case supplyLowCleared =>
    obtain rfl := Host.Outcome.next.inj h
    split
    · exact (State.recordsFollow_of_lockers rfl).takeLatch
    · exact State.recordsFollow_of_lockers rfl
  all_goals obtain rfl := Host.Outcome.next.inj h
  case flashPhase => exact State.recordsFollow_of_lockers rfl
  case lampFrame => exact State.recordsFollow_of_lockers rfl
  all_goals split <;> exact State.recordsFollow_of_lockers rfl

/-! ### The clockwork, and the two laws of the records -/

/-- R12, R16, R170: a record after a symbol time. -/
theorem State.tick_locker? (s : State) (j : Nat) : s.tick.locker? j = (s.locker? j).map fun r =>
    r.tick (s.pins.lockers.getD (j - 1) ⟨r.doorOpen, r.trayPresent, 0⟩) := by
  change State.locker? s.countTime j = _
  unfold State.locker? State.countTime
  split
  · rfl
  · simp only [List.getElem?_map, List.getElem?_zipIdx, Option.map_map, Nat.zero_add]
    cases s.lockers[j - 1]? <;> rfl

theorem State.tick_count (s : State) : s.tick.count = s.count := by
  change s.countTime.lockers.length = _
  simp [State.countTime, State.count]

theorem State.recordsFollow_idle (s : State) : s.RecordsFollow s.idle := by
  unfold State.idle
  split
  · refine ⟨s.tick_count, fun j r hr => ⟨_, by rw [s.tick_locker?, hr]; rfl, ?_⟩⟩
    exact (r.alike_tick _).follows
  · exact State.recordsFollow_of_lockers rfl

/-- R27: a power-on reset leaves records that meet the laws and hold no order. -/
theorem State.recordLaws_powerOn (s : State) (p : Straps) : (s.powerOn p).RecordLaws := by
  have hall : ∀ i r, (s.powerOn p).locker? i = some r → r = Locker.init := fun i r hr =>
    List.eq_of_mem_replicate (State.locker?_eq_some hr).2.2.2
  refine ⟨(State.recordLaw_iff _).mpr fun i r hr => ?_, (State.oneHolder_iff _).mpr fun n i j r q o o' hi _ => ?_⟩
  · rw [hall i r hr]
    decide
  · have := hi.2.1
    rw [hall i r hi.1] at this
    simp [Locker.init] at this

theorem recordLaws_exec {c : Instr} {s t : State} (hs : s.RecordLaws) (h : exec c s = .next t) : t.RecordLaws := by
  by_cases hp : ∃ p, c = .powerOnReset p
  · obtain ⟨p, rfl⟩ := hp
    obtain rfl := Host.Outcome.next.inj h
    exact s.recordLaws_powerOn p
  by_cases hw : ∃ n, c = .windowEnd n
  · obtain ⟨n, rfl⟩ := hw
    exact recordLaws_execWindowEnd h hs
  · exact (recordsFollow_exec (fun p hc => hp ⟨p, hc⟩) (fun n hc => hw ⟨n, hc⟩) h).recordLaws hs

/-- A law that the rows and the clockwork keep, and that does not look at the queue, is kept by every step. -/
theorem keptByStep_of_exec {law : State → Prop} (hidle : ∀ s, law s → law s.idle)
    (hexec : ∀ c s t, law s → exec c s = .next t → law t) (hq : ∀ s q, law s → law { s with pending := q }) :
    KeptByStep law := by
  intro s t hs h
  unfold step at h
  split at h
  · obtain rfl := Host.Outcome.next.inj h
    exact hidle s hs
  · exact hexec _ _ t (hq s _ hs) h

/-- Settles O10: every row makes of each record one that follows it, WINDOW_END reserves a free record for an order that
none holds, and a power-on reset starts afresh. -/
theorem recordLawsKept : Obligations.RecordLawsKept :=
  keptByStep_of_exec (fun s hs => s.recordsFollow_idle.recordLaws hs) (fun _ _ _ hs h => recordLaws_exec hs h)
    fun _ _ hs => hs

/-- Settles O17: a record that follows another keeps its order part or is VACANT, and WINDOW_END gives an order part to a
record without one alone. -/
theorem orderPartStands : Obligations.OrderPartStands := by
  intro c s t i r o hp hs hr ho h
  have hfit := (s.recordLaw_iff.mp hs) i r hr
  by_cases hw : ∃ n, c = .windowEnd n
  · obtain ⟨n, rfl⟩ := hw
    rcases execWindowEnd_cases h with hq | ⟨u, e, k, x, hu, hx, -, hv, -, -, ht⟩
    · exact ⟨r, by rw [hq.locker?, hr], .inl ho⟩
    · have hki : i ≠ k := by
        rintro rfl
        obtain rfl : r = x := by simpa [hu.locker?, hr] using hx
        simpa [ho] using hfit.1.1 (.inl hv)
      exact ⟨r, by rw [ht.locker?]; simp [hki, hu.locker?, hr], .inl ho⟩
  · obtain ⟨q, hq, hf⟩ := (recordsFollow_exec hp (fun n hc => hw ⟨n, hc⟩) h).2 i r hr
    exact ⟨q, hq, by rw [← ho]; exact hf.order hfit⟩

end Sys2Proof.Machine
end

section
/-! PROOFS. What stands until the next power-on reset (O15). -/

namespace Sys2Proof.Machine

/-! ### The operations on records leave what stands -/

theorem State.recompute_cadence (s : State) (i : Nat) : (s.recompute i).grant.cadence = s.grant.cadence := by
  rcases s.recompute_grant i with h | ⟨h, -⟩ <;> rw [h]

section
variable (s t : State) (i : Nat)

/-- Two states that agree in what stands stand alike to a third. -/
theorem State.stands_congr {u : State} (h : t.Stands u) (h' : u.Stands t) : s.Stands u ↔ s.Stands t :=
  ⟨fun hu => hu.trans h', fun ht => ht.trans h⟩

@[simp] theorem State.stands_modLocker (f : Locker → Locker) : s.Stands (t.modLocker i f) ↔ s.Stands t :=
  State.stands_congr s t (by constructor <;> simp) (by constructor <;> simp)

@[simp] theorem State.stands_modPins (f : LockerPins → LockerPins) : s.Stands (t.modPins i f) ↔ s.Stands t :=
  State.stands_congr s t (by constructor <;> simp) (by constructor <;> simp)

@[simp] theorem State.stands_withLockers (x : List Locker) : s.Stands (t.withLockers x) ↔ s.Stands t :=
  State.stands_congr s t (by constructor <;> simp) (by constructor <;> simp)

@[simp] theorem State.stands_withLatch (x : Latch) : s.Stands (t.withLatch x) ↔ s.Stands t :=
  State.stands_congr s t (by constructor <;> simp) (by constructor <;> simp)

@[simp] theorem State.stands_notify (e : NoticeEvent) (why : NoticeReason) (n : Nat) :
    s.Stands (t.notify i e why n) ↔ s.Stands t :=
  State.stands_congr s t (by constructor <;> simp) (by constructor <;> simp)

@[simp] theorem State.stands_vacate : s.Stands (t.vacate i) ↔ s.Stands t :=
  State.stands_congr s t (by constructor <;> simp) (by constructor <;> simp)

@[simp] theorem State.stands_retire (why : RetireReason) : s.Stands (t.retire i why) ↔ s.Stands t :=
  State.stands_congr s t (by constructor <;> simp) (by constructor <;> simp)

@[simp] theorem State.stands_strike (why : FaultReason) : s.Stands (t.strike i why) ↔ s.Stands t :=
  State.stands_congr s t (by constructor <;> simp) (by constructor <;> simp)

@[simp] theorem State.stands_holdChecks : s.Stands (t.holdChecks i) ↔ s.Stands t :=
  State.stands_congr s t (by constructor <;> simp) (by constructor <;> simp)

@[simp] theorem State.stands_takeLatch : s.Stands t.takeLatch ↔ s.Stands t :=
  State.stands_congr s t (by constructor <;> simp) (by constructor <;> simp)

@[simp] theorem State.stands_requestLatch : s.Stands (t.requestLatch i) ↔ s.Stands t :=
  State.stands_congr s t (by constructor <;> simp) (by constructor <;> simp)

@[simp] theorem State.stands_withdrawLatch : s.Stands (t.withdrawLatch i) ↔ s.Stands t :=
  State.stands_congr s t (by constructor <;> simp) (by constructor <;> simp)

@[simp] theorem State.stands_beginCycle : s.Stands (t.beginCycle i) ↔ s.Stands t :=
  State.stands_congr s t (by constructor <;> simp) (by constructor <;> simp)

@[simp] theorem State.stands_recompute : s.Stands (t.recompute i) ↔ s.Stands t :=
  State.stands_congr s t (by constructor <;> simp [State.recompute_cadence])
    (by constructor <;> simp [State.recompute_cadence])

@[simp] theorem State.stands_recomputeAll : s.Stands t.recomputeAll ↔ s.Stands t :=
  State.stands_congr s t (by constructor <;> simp [t.recomputeAll_grant])
    (by constructor <;> simp [t.recomputeAll_grant])

@[simp] theorem State.stands_takeResult : s.Stands (t.takeResult i) ↔ s.Stands t := by
  cases h : t.locker? i with
  | none => simp [State.takeResult, h]
  | some r =>
    rcases State.takeResult_cases h with ⟨-, ht⟩ | ⟨-, ht⟩ <;> rw [ht]
    · rcases State.probeFault_cases h with ⟨-, hp⟩ | ⟨-, hp⟩ <;> simp [hp]
    · rcases State.judgeReady_cases h with ⟨-, hp⟩ | ⟨-, hp⟩ <;> simp [hp]

@[simp] theorem State.stands_sample (raw : Nat) : s.Stands (t.sample i raw) ↔ s.Stands t := by simp [State.sample]

@[simp] theorem State.stands_takeOpening : s.Stands (t.takeOpening i) ↔ s.Stands t := by
  cases h : t.locker? i with
  | none => simp [State.takeOpening, h]
  | some r =>
    rcases State.takeOpening_cases h with ⟨-, ho⟩ | ⟨-, ho⟩ | ⟨-, ho⟩ | ⟨-, ho⟩ <;>
      simp [ho, State.completeRelease, State.maintenanceOpening, State.forcedOpening]

@[simp] theorem State.stands_judgeClose (r : Locker) : s.Stands (t.judgeClose i r) ↔ s.Stands t := by
  rcases t.judgeClose_cases i r with ⟨-, h⟩ | ⟨why, h⟩ | ⟨e, h⟩ | ⟨-, h⟩ | ⟨-, h⟩ | ⟨-, h⟩ <;> simp [h]

@[simp] theorem State.stands_takeClose : s.Stands (t.takeClose i) ↔ s.Stands t := by
  cases h : t.locker? i with
  | none => simp [State.takeClose, h]
  | some r => rcases State.takeClose_cases h with ⟨-, ho⟩ | ⟨-, ho⟩ <;> simp [ho]

@[simp] theorem State.stands_trayChange (present : Bool) : s.Stands (t.trayChange i present) ↔ s.Stands t := by
  unfold State.trayChange
  split
  · rfl
  · split
    · dsimp only
      split <;> simp
    · rfl

end

theorem State.Moved.stands {s t : State} (h : s.Moved t) : s.Stands t := by
  cases h with
  | quiet h => exact h.toStands
  | _ => simp [State.Stands.refl]

theorem State.Moves.stands {s t : State} (h : s.Moves t) : s.Stands t := by
  obtain ⟨u, v, hu, hm, hv⟩ := h
  exact (hu.toStands.trans hm.stands).trans hv.toStands

theorem Line.foldl_pushNotice_listenOnly (l : Line) (fs : List NoticeFrame) :
    (fs.foldl Line.pushNotice l).listenOnly = l.listenOnly := by
  induction fs generalizing l with
  | nil => rfl
  | cons f fs ih => rw [List.foldl_cons, ih]; simp

theorem State.stands_warmRestart (s : State) : s.Stands s.warmRestart where
  straps := by simp
  time := by simp
  scanAt := by simp
  share := by simp [Share.restarted]
  grant := by simp [Grant.restarted]
  lamp := by simp
  listenOnly h := by rw [s.warmRestart_line, Line.foldl_pushNotice_listenOnly]; exact h

theorem State.QuietOrRestart.stands {s t : State} (h : s.QuietOrRestart t) : s.Stands t := by
  rcases h with h | ⟨u, h, rfl⟩
  · exact h.toStands
  · exact h.toStands.trans u.stands_warmRestart

/-! ### The Timebase (R186, R187, R189, R190) -/

/-- What a row may change of the Timebase. -/
structure Timebase.Changes (c : Instr) (a b : Timebase) : Prop where
  divider : b.divider = a.divider
  isSome : a.clock.isSome = true → b.clock.isSome = true
  clock : c ≠ .minuteTick → (∀ a m x, c ≠ .time a m x) → b.clock = a.clock
  classes : c ≠ .classWriteEnd → b.classes = a.classes ∧ b.store = a.store
  trip : c ≠ .feederTripAsserted → c ≠ .feederTripCleared → b.feederTrip = a.feederTrip
  supply : c ≠ .supplyLowAsserted → c ≠ .supplyLowCleared → b.supplyLow = a.supplyLow

theorem Timebase.Changes.refl (c : Instr) (a : Timebase) : a.Changes c a :=
  ⟨rfl, id, fun _ _ => rfl, fun _ => ⟨rfl, rfl⟩, fun _ _ => rfl, fun _ _ => rfl⟩

/-- A row changes the Timebase as its kind allows, and leaves the rest of what stands. -/
def State.StandsBut (c : Instr) (s t : State) : Prop := ∃ x, s.time.Changes c x ∧ (s.withTime x).Stands t

theorem State.Stands.but {s t : State} (h : s.Stands t) (c : Instr) : s.StandsBut c t := ⟨s.time, .refl c _, h⟩

theorem standsBut_exec {c : Instr} {s t : State} (hp : ∀ p, c ≠ .powerOnReset p) (hl : c ≠ .lampFrame)
    (h : exec c s = .next t) : s.StandsBut c t := by
  by_cases hb : besideRecords c = true
  · exact (exec_besideRecords hb h).stands.but c
  cases c <;> simp only [besideRecords, not_true_eq_false] at hb
  case powerOnReset p => exact absurd rfl (hp p)
  case lampFrame => exact absurd rfl hl
  case claim src order score locker loaded => exact (moves_execClaim (src := src) (locker := locker) h).stands.but _
  case enterKey => exact (moves_execEnterKey h).stands.but _
  case windowEnd =>
    rcases execWindowEnd_cases h with hq | ⟨u, e, i, r, hu, -, -, -, -, -, ht⟩
    · exact hq.toStands.but _
    · exact ((hu.toStands.trans (by simp [State.Stands.refl])).trans ht.toStands).but _
  case classWriteEnd =>
    rcases execClassWriteEnd_cases h with hq | ⟨w, -, hq⟩
    · exact hq.toStands.but _
    · exact ⟨_, by constructor <;> simp [Timebase.writeClass], hq.toStands⟩
  case secondTick =>
    rw [exec, execSecondTick_eq] at h
    obtain rfl := Host.Outcome.next.inj h
    refine ⟨s.time.secondTick, by constructor <;> simp [Timebase.secondTick], ?_⟩
    simp only [State.stands_recomputeAll, State.stands_withLockers]
    constructor <;> simp
  case minuteTick =>
    obtain rfl := Host.Outcome.next.inj h
    refine ⟨s.time.minuteTick, by constructor <;> simp [Timebase.minuteTick], ?_⟩
    rw [State.stands_recomputeAll]
    exact State.forEach_keeps (.refl _) fun t i _ ht => ht.trans (by constructor <;> simp)
  all_goals obtain rfl := Host.Outcome.next.inj h
  case warmRestart => exact s.stands_warmRestart.but _
  case flashPhase => exact ⟨_, by constructor <;> simp, .refl _⟩
  case time minute second =>
    split
    · refine ⟨{ s.time with clock := some minute, second := second }, by constructor <;> simp, ?_⟩
      rw [State.stands_recomputeAll]
      exact .refl _
    · exact (State.Stands.refl s).but _
  case load => exact (s.moves_takeVerb _ (moves_inService moves_loadRule)).stands.but _
  case void => exact (s.moves_takeVerb _ (moves_inService moves_voidRule)).stands.but _
  case clear =>
    exact (s.moves_takeVerb _ (moves_inService (moves_lockerRule fun _ _ _ => moves_clearRule))).stands.but _
  case block =>
    exact (s.moves_takeVerb _ (moves_inService (moves_lockerRule fun _ _ _ => moves_blockRule))).stands.but _
  case unblock =>
    exact (s.moves_takeVerb _ (moves_inService (moves_lockerRule fun _ _ _ h _ => moves_unblockRule h))).stands.but _
  case feederTripAsserted =>
    split
    · exact (State.Stands.refl s).but _
    · exact ⟨{ s.time with feederTrip := true, tripSettle := none }, by constructor <;> simp, by constructor <;> simp⟩
  case feederTripCleared =>
    split
    · exact ⟨{ s.time with feederTrip := false, tripSettle := none }, by constructor <;> simp, by constructor <;> simp⟩
    · exact (State.Stands.refl s).but _
  case supplyLowAsserted =>
    split
    · exact (State.Stands.refl s).but _
    · exact ⟨{ s.time with supplyLow := true, supplySettle := none }, by constructor <;> simp, by constructor <;> simp⟩
  case supplyLowCleared =>
    split
    · exact ⟨{ s.time with supplyLow := false, supplySettle := none }, by constructor <;> simp, by constructor <;> simp⟩
    · exact (State.Stands.refl s).but _
  case trayAppeared i => exact State.Stands.but (by simp [State.Stands.refl]) _
  case trayRemoved i => exact State.Stands.but (by simp [State.Stands.refl]) _
  all_goals
    refine State.Stands.but ?_ _
    repeat' split
    all_goals simp [State.Stands.refl]

/-- Settles O15: a row leaves what stands but for its own changes of the Timebase, and every record follows one. -/
theorem standingValuesAreKept : Obligations.StandingValuesAreKept := by
  intro c s t hp h
  have hrec : t.count = s.count ∧
      ∀ i r, s.locker? i = some r → r.swept = true → ∃ q, t.locker? i = some q ∧ q.swept = true := by
    by_cases hw : ∃ n, c = .windowEnd n
    · obtain ⟨n, rfl⟩ := hw
      rcases execWindowEnd_cases h with hq | ⟨u, e, k, x, hu, hx, hxs, -, -, -, ht⟩
      · exact ⟨hq.count, fun i r hr hs => ⟨r, by rw [hq.locker?, hr], hs⟩⟩
      · refine ⟨by simp [ht.count, hu.count], fun i r hr hs => ?_⟩
        rw [← hu.locker?] at hr
        rw [ht.locker?]
        by_cases hik : i = k
        · subst hik; simp [hr, Locker.reserve, hs]
        · simp [hik, hr, hs]
    · have hf := recordsFollow_exec hp (fun n hc => hw ⟨n, hc⟩) h
      refine ⟨hf.1, fun i r hr hs => ?_⟩
      obtain ⟨q, hq, hrq⟩ := hf.2 i r hr
      exact ⟨q, hq, hrq.swept hs⟩
  by_cases hl : c = .lampFrame
  · subst hl
    obtain rfl := Host.Outcome.next.inj h
    exact ⟨rfl, rfl, id, id, hrec.2, fun _ _ => rfl, fun _ => ⟨rfl, rfl⟩, fun _ _ => rfl, fun _ _ => rfl, rfl, rfl, rfl,
      rfl, fun hne => absurd rfl hne⟩
  · obtain ⟨x, hx, hst⟩ := standsBut_exec hp hl h
    obtain rfl : t.time = x := hst.time
    exact ⟨hst.straps, hrec.1, hx.isSome, hst.listenOnly, hrec.2, hx.clock, hx.classes, hx.trip, hx.supply, hx.divider,
      hst.scanAt, hst.share, hst.grant, fun _ => hst.lamp⟩

end Sys2Proof.Machine
end

section
/-! PROOFS. The latch queue, the pulse and the door cycles agree after every step (O11). -/

namespace Sys2Proof.Machine

/-! ### Door cycles by index -/

/-- R1: the door cycle of the record of a locker index. -/
def State.cycleAt (s : State) (j : Nat) : Option DoorCycle := (s.locker? j).map Locker.cycle

theorem State.cycleAt_some {s : State} {j : Nat} {r : Locker} (h : s.locker? j = some r) :
    s.cycleAt j = some r.cycle := by simp [State.cycleAt, h]

/-- The latch law but for the clause on an idle driver: what holds as a head may be about to be taken (R165). -/
structure State.LatchReady (s : State) : Prop where
  nodup : s.latch.queue.Nodup
  mem : ∀ i ∈ s.latch.queue, i ∈ s.indices
  queued : ∀ i, s.cycleAt i = some .queued → i ∈ s.latch.queue
  pulsing : ∀ i, s.cycleAt i = some .pulsing → s.latchSelect i = true

theorem State.latchLaw_iff (s : State) : s.LatchLaw ↔ s.LatchReady ∧
    (s.latch.pulse = none → s.time.supplyLow = false → s.latch.queue = []) := by
  constructor
  · rintro ⟨hn, hm, hidle, hc⟩
    have hall : ∀ i r, s.locker? i = some r → (r.cycle = .queued → i ∈ s.latch.queue) ∧
        (r.cycle = .pulsing → s.latchSelect i = true) := by
      intro i r hr
      have := hc i (State.mem_indices.mpr ⟨(State.locker?_eq_some hr).1, (State.locker?_eq_some hr).2.1⟩)
      simpa only [hr] using this
    refine ⟨⟨hn, hm, fun i hi => ?_, fun i hi => ?_⟩, hidle⟩
    · obtain ⟨r, hr, hq⟩ := Option.map_eq_some_iff.mp hi
      exact (hall i r hr).1 hq
    · obtain ⟨r, hr, hq⟩ := Option.map_eq_some_iff.mp hi
      exact (hall i r hr).2 hq
  · rintro ⟨⟨hn, hm, hq, hp⟩, hidle⟩
    refine ⟨hn, hm, hidle, fun i _ => ?_⟩
    split
    next r hr =>
      exact ⟨fun hc => hq i (by rw [State.cycleAt_some hr, hc]), fun hc => hp i (by rw [State.cycleAt_some hr, hc])⟩
    · trivial

theorem State.latchSelect_iff (s : State) (i : Nat) :
    s.latchSelect i = true ↔ ∃ p, s.latch.pulse = some p ∧ p.locker = i := by
  unfold State.latchSelect
  cases s.latch.pulse <;> simp

/-- R165: the driver takes the head, or has none to take. -/
theorem State.LatchReady.takeLatch {s : State} (h : s.LatchReady) : s.takeLatch.LatchLaw := by
  rw [State.latchLaw_iff]
  rcases s.takeLatch_cases with ⟨he, hn⟩ | ⟨i, rest, hp, hq, hs, he⟩
  · rw [he]
    refine ⟨h, fun h1 h2 => ?_⟩
    rcases hn with hn | hn | hn
    · exact absurd h1 hn
    · exact hn
    · simp [h2] at hn
  · have hnone : ∀ j, s.cycleAt j ≠ some .pulsing := by
      intro j hj
      obtain ⟨p, hp', -⟩ := (s.latchSelect_iff j).mp (h.pulsing j hj)
      simp [hp] at hp'
    have hcyc : ∀ j x, s.takeLatch.cycleAt j = some x →
        (x = .queued → j ≠ i ∧ s.cycleAt j = some .queued) ∧ (x = .pulsing → j = i) := by
      intro j x hx
      by_cases hj : j = i
      · subst hj
        cases hr : s.locker? j with
        | none => simp [State.cycleAt, he, hr] at hx
        | some r =>
          refine ⟨fun hxq => ?_, fun _ => rfl⟩
          by_cases hc : r.cycle = .queued <;> simp [State.cycleAt, he, hr, hc] at hx <;> simp_all
      · have hx' : s.cycleAt j = some x := by simpa [State.cycleAt, he, hj] using hx
        exact ⟨fun hxq => ⟨hj, by rw [hx', hxq]⟩, fun hxp => absurd (hxp ▸ hx') (hnone j)⟩
    have hnodup : (i :: rest).Nodup := hq ▸ h.nodup
    have hlatch : s.takeLatch.latch = ⟨rest, some ⟨i, 0⟩⟩ := by simp [he]
    refine ⟨⟨?_, ?_, ?_, ?_⟩, by simp [hlatch]⟩
    · simpa [hlatch] using (List.nodup_cons.mp hnodup).2
    · intro j hj
      rw [hlatch] at hj
      simpa using h.mem j (by rw [hq]; exact List.mem_cons_of_mem i hj)
    · intro j hj
      obtain ⟨hne, hjq⟩ := (hcyc j _ hj).1 rfl
      rw [hlatch]
      exact (List.mem_cons.mp (hq ▸ h.queued j hjq)).resolve_left hne
    · intro j hj
      rw [State.latchSelect_iff, hlatch]
      exact ⟨_, rfl, ((hcyc j _ hj).2 rfl).symm⟩

/-! ### Rows that hand no request -/

/-- The latch driver stands, and no record's door cycle becomes QUEUED or PULSING. -/
structure State.Eases (s t : State) : Prop where
  latch : t.latch = s.latch
  supplyLow : t.time.supplyLow = s.time.supplyLow
  count : t.count = s.count
  cycles : ∀ j x, t.cycleAt j = some x → s.cycleAt j = some x ∨ x ≠ .queued ∧ x ≠ .pulsing

theorem State.Eases.refl (s : State) : s.Eases s := ⟨rfl, rfl, rfl, fun _ _ h => .inl h⟩

theorem State.Eases.trans {s t u : State} (h : s.Eases t) (h' : t.Eases u) : s.Eases u where
  latch := h'.latch.trans h.latch
  supplyLow := h'.supplyLow.trans h.supplyLow
  count := h'.count.trans h.count
  cycles j x hx := (h'.cycles j x hx).elim (h.cycles j x) .inr

theorem State.indices_congr {s t : State} (h : t.count = s.count) : t.indices = s.indices := by simp [State.indices, h]

theorem State.LatchReady.eases {s t : State} (h : s.LatchReady) (he : s.Eases t) : t.LatchReady where
  nodup := by rw [he.latch]; exact h.nodup
  mem := by rw [he.latch, State.indices_congr he.count]; exact h.mem
  queued j hj := by rw [he.latch]; exact h.queued j ((he.cycles j _ hj).resolve_right (by simp))
  pulsing j hj := by
    have := h.pulsing j ((he.cycles j _ hj).resolve_right (by simp))
    rwa [State.latchSelect, he.latch]

theorem State.LatchLaw.eases {s t : State} (h : s.LatchLaw) (he : s.Eases t) : t.LatchLaw := by
  rw [State.latchLaw_iff] at h ⊢
  exact ⟨h.1.eases he, by rw [he.latch, he.supplyLow]; exact h.2⟩

/-- Rows that put a record whose door cycle stands or is another than QUEUED and PULSING. -/
theorem State.eases_of_records {s t : State} (hl : t.latch = s.latch) (ht : t.time.supplyLow = s.time.supplyLow)
    (hc : t.count = s.count)
    (hr : ∀ j q, t.locker? j = some q → (∃ r, s.locker? j = some r ∧ q.cycle = r.cycle) ∨
      q.cycle ≠ .queued ∧ q.cycle ≠ .pulsing) : s.Eases t := by
  refine ⟨hl, ht, hc, fun j x hx => ?_⟩
  obtain ⟨q, hq, rfl⟩ := Option.map_eq_some_iff.mp hx
  exact (hr j q hq).imp_left fun ⟨r, hr, he⟩ => by rw [State.cycleAt_some hr, he]

/-- A row that changes the record of one locker. -/
theorem State.eases_of_one {s t : State} {i : Nat} (hl : t.latch = s.latch) (ht : t.time.supplyLow = s.time.supplyLow)
    (hc : t.count = s.count) (ho : ∀ j, j ≠ i → t.locker? j = s.locker? j)
    (hi : ∀ q, t.locker? i = some q → (∃ r, s.locker? i = some r ∧ q.cycle = r.cycle) ∨
      q.cycle ≠ .queued ∧ q.cycle ≠ .pulsing) : s.Eases t := by
  refine State.eases_of_records hl ht hc fun j q hq => ?_
  by_cases hj : j = i
  · subst hj; exact hi q hq
  · exact .inl ⟨q, by rw [← ho j hj, hq], rfl⟩

theorem State.eases_recompute (s : State) (i : Nat) : s.Eases (s.recompute i) :=
  State.eases_of_one (i := i) (by simp) (by simp) (by simp) (fun j hj => by simp [hj]) fun q hq => by
    obtain ⟨r, hr, rfl⟩ : ∃ r, s.locker? i = some r ∧ _ = q := by simpa using hq
    exact .inl ⟨r, hr, by simp⟩

theorem State.eases_recomputeAll (s : State) : s.Eases s.recomputeAll :=
  State.eases_of_records (by simp) (by simp) (by simp) fun j q hq => by
    obtain ⟨r, hr, rfl⟩ : ∃ r, s.locker? j = some r ∧ _ = q := by simpa using hq
    exact .inl ⟨r, hr, by simp⟩

/-- A change that leaves the door cycle. -/
theorem State.eases_modLocker {s : State} (i : Nat) {f : Locker → Locker} (hf : ∀ r, (f r).cycle = r.cycle) :
    s.Eases (s.modLocker i f) :=
  State.eases_of_one (i := i) (by simp) (by simp) (by simp) (fun j hj => by simp [hj]) fun q hq => by
    obtain ⟨r, hr, rfl⟩ : ∃ r, s.locker? i = some r ∧ f r = q := by simpa using hq
    exact .inl ⟨r, hr, hf r⟩

theorem State.eases_withTime {s : State} {x : Timebase} (hx : x.supplyLow = s.time.supplyLow) : s.Eases (s.withTime x) :=
  ⟨rfl, hx, rfl, fun _ _ h => .inl h⟩

theorem State.eases_notify (s : State) (i : Nat) (e : NoticeEvent) (why : NoticeReason) (n : Nat) :
    s.Eases (s.notify i e why n) := ⟨by simp, by simp, by simp, fun j x hx => .inl (by simpa [State.cycleAt] using hx)⟩

theorem State.eases_modPins (s : State) (i : Nat) (f : LockerPins → LockerPins) : s.Eases (s.modPins i f) :=
  ⟨by simp, by simp, by simp, fun j x hx => .inl (by simpa [State.cycleAt] using hx)⟩

theorem State.eases_retire (s : State) (i : Nat) (why : RetireReason) : s.Eases (s.retire i why) :=
  State.eases_of_one (i := i) (by simp) (by simp) (by simp) (fun j hj => by simp [hj]) fun q hq => by
    obtain ⟨r, hr, rfl⟩ : ∃ r, s.locker? i = some r ∧ _ = q := by simpa using hq
    exact .inl ⟨r, hr, rfl⟩

theorem Locker.toFault_cycle (r : Locker) (why : FaultReason) : (r.toFault why).cycle = r.cycle := by
  unfold Locker.toFault
  split <;> rfl

theorem State.eases_strike (s : State) (i : Nat) (why : FaultReason) : s.Eases (s.strike i why) :=
  State.eases_of_one (i := i) (by simp) (by simp) (by simp) (fun j hj => by simp [hj]) fun q hq => by
    obtain ⟨r, hr, rfl⟩ : ∃ r, s.locker? i = some r ∧ _ = q := by simpa using hq
    exact .inl ⟨r, hr, r.toFault_cycle why⟩

theorem State.Eases.recompute {s t : State} (h : s.Eases t) (i : Nat) : s.Eases (t.recompute i) :=
  h.trans (t.eases_recompute i)

theorem State.Quiet.eases {s t : State} (h : s.Quiet t) : s.Eases t :=
  ⟨h.latch, by rw [h.time], h.count, fun j x hx => .inl (by simpa [State.cycleAt, h.locker?] using hx)⟩

/-! ### Rows that hand a request, or withdraw one -/

/-- R163: a request for the record that becomes QUEUED. -/
theorem State.LatchReady.requestLatch {s : State} {i : Nat} {q : Locker} (h : s.LatchReady) (hi : i ∈ s.indices)
    (hc : q.cycle = .queued) : ((s.modLocker i fun _ => q).requestLatch i).LatchLaw := by
  have hcyc : ∀ j x, (s.modLocker i fun _ => q).cycleAt j = some x → j = i ∧ x = .queued ∨ s.cycleAt j = some x := by
    intro j x hx
    by_cases hj : j = i
    · subst hj
      obtain ⟨p, -, rfl⟩ : ∃ p, s.locker? j = some p ∧ q.cycle = x := by simpa [State.cycleAt] using hx
      exact .inl ⟨rfl, hc⟩
    · exact .inr (by simpa [State.cycleAt, hj] using hx)
  have hq : ∀ j, (s.modLocker i fun _ => q).cycleAt j = some .queued → j = i ∨ j ∈ s.latch.queue := fun j hj =>
    (hcyc j _ hj).imp And.left (h.queued j)
  have hp : ∀ j, (s.modLocker i fun _ => q).cycleAt j = some .pulsing → s.latchSelect j = true := fun j hj =>
    h.pulsing j ((hcyc j _ hj).resolve_left (by simp))
  rw [State.requestLatch_eq]
  apply State.LatchReady.takeLatch
  split
  next hin =>
    have hin : i ∈ s.latch.queue := by simpa using hin
    refine ⟨by simpa using h.nodup, by simpa using h.mem, fun j hj => ?_,
      fun j hj => by simpa [State.latchSelect] using hp j hj⟩
    rcases hq j hj with rfl | hj
    · simpa using hin
    · simpa using hj
  next hin =>
    have hin : i ∉ s.latch.queue := by simpa using hin
    refine ⟨?_, fun j hj => ?_, fun j hj => ?_, fun j hj => by simpa [State.latchSelect] using hp j hj⟩
    · simpa [List.nodup_append] using ⟨h.nodup, fun j hj he => hin (he ▸ hj)⟩
    · rcases List.mem_append.mp hj with hj | hj
      · simpa using h.mem j (by simpa using hj)
      · obtain rfl : j = i := by simpa using hj
        simpa using hi
    · rcases hq j hj with rfl | hj <;> simp [*]

theorem State.mem_indices_of_locker? {s : State} {i : Nat} {r : Locker} (h : s.locker? i = some r) : i ∈ s.indices :=
  State.mem_indices.mpr ⟨(State.locker?_eq_some h).1, (State.locker?_eq_some h).2.1⟩

/-- R10: a door cycle begins. -/
theorem State.LatchLaw.beginCycle {s : State} (h : s.LatchLaw) (i : Nat) : (s.beginCycle i).LatchLaw := by
  cases hr : s.locker? i with
  | none => simpa [State.beginCycle, hr] using h
  | some r =>
    rw [State.beginCycle_eq hr]
    split
    next hd =>
      exact h.eases (State.eases_of_one (i := i) (by simp) (by simp) (by simp) (fun j hj => by simp [hj])
        fun q hq => .inr (by
          obtain rfl : r.begun = q := by simpa [hr] using hq
          simp [Locker.begun, hd]))
    next hd => exact (s.latchLaw_iff.mp h).1.requestLatch (State.mem_indices_of_locker? hr) (by simp [Locker.begun, hd])

/-- R164: the request of a record that is no longer QUEUED is withdrawn. -/
theorem State.LatchLaw.withdraw {s t : State} {i : Nat} (h : s.LatchLaw) (hl : t.latch = (s.withdrawLatch i).latch)
    (ht : t.time.supplyLow = s.time.supplyLow) (hc : t.count = s.count)
    (ho : ∀ j, j ≠ i → t.locker? j = s.locker? j)
    (hi : ∀ q, t.locker? i = some q → q.cycle ≠ .queued ∧ q.cycle ≠ .pulsing) : t.LatchLaw := by
  rw [State.latchLaw_iff] at h ⊢
  obtain ⟨h, hidle⟩ := h
  have hcyc : ∀ j x, t.cycleAt j = some x → x = .queued ∨ x = .pulsing → j ≠ i ∧ s.cycleAt j = some x := by
    intro j x hx hor
    by_cases hj : j = i
    · subst hj
      obtain ⟨q, hq, rfl⟩ := Option.map_eq_some_iff.mp hx
      obtain ⟨h1, h2⟩ := hi q hq
      exact (hor.elim h1 h2).elim
    · exact ⟨hj, by simpa [State.cycleAt, ho j hj] using hx⟩
  refine ⟨⟨?_, fun j hj => ?_, fun j hj => ?_, fun j hj => ?_⟩, fun hp hs => ?_⟩
  · simpa [hl] using h.nodup.filter _
  · rw [State.indices_congr hc]
    rw [hl] at hj
    exact h.mem j (List.mem_of_mem_filter hj)
  · obtain ⟨hne, hjq⟩ := hcyc j _ hj (.inl rfl)
    simpa [hl, hne] using h.queued j hjq
  · obtain ⟨-, hjp⟩ := hcyc j _ hj (.inr rfl)
    have := h.pulsing j hjp
    simpa only [State.latchSelect, hl, State.withdrawLatch_latch] using this
  · simp only [hl, State.withdrawLatch_latch] at hp ⊢
    simp [hidle hp (ht ▸ hs)]

/-- R28, R158: an empty driver, and no record that waits for it. -/
theorem State.latchLaw_of_init {s : State} (hl : s.latch = Latch.init)
    (hr : ∀ j r, s.locker? j = some r → r.cycle ≠ .queued ∧ r.cycle ≠ .pulsing) : s.LatchLaw := by
  rw [State.latchLaw_iff]
  have hc : ∀ j x, s.cycleAt j = some x → x ≠ .queued ∧ x ≠ .pulsing := fun j x hx => by
    obtain ⟨r, hr', rfl⟩ := Option.map_eq_some_iff.mp hx
    exact hr j r hr'
  exact ⟨⟨by simp [hl, Latch.init], by simp [hl, Latch.init], fun j hj => absurd rfl (hc j _ hj).1,
    fun j hj => absurd rfl (hc j _ hj).2⟩, by simp [hl, Latch.init]⟩

theorem Locker.reverted_cycle (r : Locker) (classes : List (Option ClassEntry)) (clock : Option Nat) :
    (r.reverted classes clock).cycle ≠ .queued ∧ (r.reverted classes clock).cycle ≠ .pulsing := by
  unfold Locker.reverted
  split
  next hc =>
    cases hs : r.state
    case loading => cases hv : r.voidPending <;> simp [Locker.ended, Locker.toVacant]
    case releasing =>
      cases r.holdVerdict classes clock <;> simp [Locker.retiredFor, Locker.ended, Locker.toRetired]
    all_goals simp [Locker.ended]
  next hc => simpa using hc

theorem State.latchLaw_warmRestart (s : State) : s.warmRestart.LatchLaw := by
  refine State.latchLaw_of_init (by simp) fun j q hq => ?_
  rw [State.warmRestart_locker?] at hq
  obtain ⟨r, -, rfl⟩ := Option.map_eq_some_iff.mp hq
  simpa using r.reverted_cycle _ _

theorem State.latchLaw_powerOn (s : State) (p : Straps) : (s.powerOn p).LatchLaw :=
  State.latchLaw_of_init rfl fun j r hr => by
    rw [List.eq_of_mem_replicate (State.locker?_eq_some hr).2.2.2]
    decide

/-! ### The rows -/

theorem State.QuietOrRestart.latchLaw {s t : State} (h : s.QuietOrRestart t) (hs : s.LatchLaw) : t.LatchLaw := by
  rcases h with h | ⟨u, -, rfl⟩
  · exact hs.eases h.eases
  · exact u.latchLaw_warmRestart

theorem State.Moved.latchLaw {s t : State} (h : s.Moved t) (hs : s.LatchLaw) : t.LatchLaw := by
  cases h with
  | quiet h => exact hs.eases h.eases
  | @load i =>
    exact ((hs.eases (State.eases_modLocker i (by intro; rfl))).beginCycle i).eases (State.eases_recompute _ i)
  | @release i =>
    exact ((hs.eases (State.eases_modLocker i (by intro; rfl))).beginCycle i).eases (State.eases_recompute _ i)
  | @cancel i => exact hs.eases ((State.eases_modLocker i (by intro; rfl)).recompute i)
  | @pend i => exact hs.eases (State.eases_modLocker i (by intro; rfl))
  | @void i => exact hs.eases ((State.eases_retire s i _).recompute i)
  | @clear i => exact hs.beginCycle i
  | @block i => exact hs.eases ((State.eases_modLocker i (by intro; rfl)).recompute i)
  | @unblock i => exact hs.eases ((State.eases_modLocker i (by intro; rfl)).recompute i)

theorem State.Moves.latchLaw {s t : State} (h : s.Moves t) (hs : s.LatchLaw) : t.LatchLaw := by
  obtain ⟨u, v, hu, hm, hv⟩ := h
  exact (hm.latchLaw (hs.eases hu.eases)).eases hv.eases

/-- R165: a SUPPLY LOW that falls lets the driver take its head. -/
theorem latchLaw_execSupplyLowCleared {s t : State} (h : execSupplyLowCleared s = .next t) (hs : s.LatchLaw) :
    t.LatchLaw := by
  obtain rfl := Host.Outcome.next.inj h
  split
  · obtain ⟨hn, hm, hq, hp⟩ := (s.latchLaw_iff.mp hs).1
    exact State.LatchReady.takeLatch ⟨hn, hm, hq, hp⟩
  · exact hs

/-- R167: while SUPPLY LOW is asserted an idle driver may leave an index waiting. -/
theorem latchLaw_execSupplyLowAsserted {s t : State} (h : execSupplyLowAsserted s = .next t) (hs : s.LatchLaw) :
    t.LatchLaw := by
  obtain rfl := Host.Outcome.next.inj h
  split
  · exact hs
  · obtain ⟨hn, hm, hq, hp⟩ := (s.latchLaw_iff.mp hs).1
    exact (State.latchLaw_iff _).mpr ⟨⟨hn, hm, hq, hp⟩, by simp [State.cutPower]⟩

/-- R166: the pulse is over for its record, and the driver is free for the next head. -/
theorem latchLaw_execPulseEnded {s t : State} (h : execPulseEnded s = .next t) (hs : s.LatchLaw) : t.LatchLaw := by
  obtain rfl := Host.Outcome.next.inj h
  cases hp : s.latch.pulse with
  | none => exact hs
  | some p =>
    obtain ⟨hn, hm, hq, hpu⟩ := (s.latchLaw_iff.mp hs).1
    have hcyc : ∀ j x, ((s.withLatch { s.latch with pulse := none }).modLocker p.locker Locker.pulseEnd).cycleAt j =
        some x → x = .awaitOpen ∨ x ≠ .pulsing ∧ s.cycleAt j = some x := by
      intro j x hx
      by_cases hj : j = p.locker
      · obtain ⟨r, hr, rfl⟩ : ∃ r, s.locker? j = some r ∧ r.pulseEnd.cycle = x := by
          simpa [State.cycleAt, hj] using hx
        by_cases hc : r.cycle = .pulsing
        · exact .inl (by simp [Locker.pulseEnd, hc])
        · exact .inr (by simp [Locker.pulseEnd, hc, State.cycleAt_some hr])
      · have hx : s.cycleAt j = some x := by simpa [State.cycleAt, hj] using hx
        refine .inr ⟨fun hxp => hj ?_, hx⟩
        obtain ⟨q, hq, rfl⟩ := (s.latchSelect_iff j).mp (hpu j (hxp ▸ hx))
        rw [hp] at hq
        cases hq
        rfl
    refine State.LatchReady.takeLatch ⟨by simpa using hn, by simpa using hm, fun j hj => ?_, fun j hj => ?_⟩
    · simpa using hq j ((hcyc j _ hj).resolve_left (by simp)).2
    · exact absurd rfl ((hcyc j _ hj).resolve_left (by simp)).1

/-- R15, R33: a probe fault withdraws the request of the record it strikes, or leaves the door cycle. -/
theorem State.LatchLaw.takeResult {s : State} (hs : s.LatchLaw) (i : Nat) : (s.takeResult i).LatchLaw := by
  cases hr : s.locker? i with
  | none => simpa [State.takeResult, hr] using hs
  | some r =>
    rcases State.takeResult_cases hr with ⟨-, ht⟩ | ⟨-, ht⟩ <;> rw [ht]
    · rcases State.probeFault_cases hr with ⟨-, hp⟩ | ⟨-, hp⟩ <;> rw [hp]
      · refine State.LatchLaw.withdraw (i := i) hs (by simp) (by simp) (by simp) (fun j hj => by simp [hj]) fun q hq => ?_
        obtain rfl : r.ended.toFault .probe = q := by simpa [hr] using hq
        simp [Locker.toFault_cycle, Locker.ended]
      · exact hs.eases (s.eases_strike i _)
    · rcases State.judgeReady_cases hr with ⟨-, hp⟩ | ⟨-, hp⟩ <;> rw [hp]
      · exact hs.eases ((State.eases_modLocker i (by intro; rfl)).trans (State.eases_notify ..))
      · exact hs

theorem State.LatchLaw.sample {s : State} (hs : s.LatchLaw) (i raw : Nat) : (s.sample i raw).LatchLaw :=
  ((hs.eases (State.eases_modLocker i fun r => (r.alike_sampled raw).cycle)).takeResult i).eases
    (State.eases_recompute _ i)

theorem latchLaw_execProbeSample {s t : State} {i raw : Nat} (h : execProbeSample i raw s = .next t)
    (hs : s.LatchLaw) : t.LatchLaw := by
  obtain rfl := Host.Outcome.next.inj h
  split
  · exact hs
  · split
    · exact State.LatchLaw.sample (hs.eases (State.eases_modPins ..)) i raw
    · exact hs

theorem latchLaw_execFirstSweepReading {s t : State} {i raw : Nat} {door tray : Bool}
    (h : execFirstSweepReading i door tray raw s = .next t) (hs : s.LatchLaw) : t.LatchLaw := by
  obtain rfl := Host.Outcome.next.inj h
  split
  · exact hs
  next r hr =>
    split
    · exact hs
    · have hread : s.Eases ((s.modPins i fun _ => ⟨door, tray, raw⟩).modLocker i fun r => r.firstRead door tray) := by
        refine State.eases_of_one (i := i) (by simp) (by simp) (by simp) (fun j hj => by simp [hj]) fun q hq => ?_
        obtain rfl : r.firstRead door tray = q := by simpa [hr] using hq
        cases door
        · exact .inl ⟨r, hr, rfl⟩
        · exact .inr (by simp [Locker.firstRead])
      refine State.LatchLaw.sample ?_ i raw
      split
      · exact hs.eases (hread.trans (State.eases_retire ..))
      · exact hs.eases hread

theorem latchLaw_execDoorOpened {s t : State} {i : Nat} (h : execDoorOpened i s = .next t) (hs : s.LatchLaw) :
    t.LatchLaw := by
  obtain rfl := Host.Outcome.next.inj h
  split
  · exact hs
  next r hr =>
    split
    · refine State.LatchLaw.eases ?_ (State.eases_recompute _ i)
      have hopen : s.Eases ((s.modPins i fun p => { p with doorOpen := true }).modLocker i Locker.openedNow) :=
        (State.eases_modPins ..).trans (State.eases_modLocker i fun _ => rfl)
      have hop : ((s.modPins i fun p => { p with doorOpen := true }).modLocker i Locker.openedNow).locker? i =
        some r.openedNow := by simp [hr]
      rcases State.takeOpening_cases hop with ⟨-, ho⟩ | ⟨-, ho⟩ | ⟨-, ho⟩ | ⟨-, ho⟩ <;> rw [ho]
      · refine hs.eases (State.eases_of_one (i := i) (by simp [State.completeRelease]) (by simp [State.completeRelease])
          (by simp [State.completeRelease]) (fun j hj => by simp [State.completeRelease, hj]) fun q hq => .inr ?_)
        obtain rfl : _ = q := by simpa [State.completeRelease, hr] using hq
        simp
      · exact hs.eases hopen
      · refine State.LatchLaw.withdraw (i := i) (hs.eases hopen) (by simp [State.maintenanceOpening])
          (by simp [State.maintenanceOpening]) (by simp [State.maintenanceOpening])
          (fun j hj => by simp [State.maintenanceOpening, hj]) fun q hq => ?_
        obtain rfl : _ = q := by simpa [State.maintenanceOpening, hr] using hq
        simp
      · refine State.LatchLaw.withdraw (i := i) (hs.eases hopen) (by simp [State.forcedOpening])
          (by simp [State.forcedOpening]) (by simp [State.forcedOpening])
          (fun j hj => by simp [State.forcedOpening, hj]) fun q hq => ?_
        obtain rfl : _ = q := by simpa [State.forcedOpening, hr] using hq
        simp [Locker.toFault_cycle]
    · exact hs

theorem latchLaw_execDoorClosed {s t : State} {i : Nat} (h : execDoorClosed i s = .next t) (hs : s.LatchLaw) :
    t.LatchLaw := by
  obtain rfl := Host.Outcome.next.inj h
  split
  · exact hs
  next r hr =>
    split
    · have hshut : s.Eases ((s.modPins i fun p => { p with doorOpen := false }).modLocker i Locker.shut) :=
        (State.eases_modPins ..).trans (State.eases_modLocker i fun _ => rfl)
      have hsh : ((s.modPins i fun p => { p with doorOpen := false }).modLocker i Locker.shut).locker? i =
        some r.shut := by simp [hr]
      refine State.LatchLaw.eases (hs.eases hshut) (State.Eases.recompute ?_ i)
      change State.Eases _ (State.takeClose ((s.modPins i fun p => { p with doorOpen := false }).modLocker i Locker.shut) i)
      rcases State.takeClose_cases hsh with ⟨-, ho⟩ | ⟨-, ho⟩ <;> rw [ho]
      · exact .refl _
      · refine State.eases_of_one (i := i) (by simp) (by simp) (by simp) (fun j hj => by simp [hj]) fun q hq => .inr ?_
        obtain ⟨p, -, rfl⟩ : ∃ p : Locker, _ ∧ p.ended = q := by simpa using hq
        simp [Locker.ended]
    · exact hs

theorem State.eases_trayChange (s : State) (i : Nat) (present : Bool) : s.Eases (s.trayChange i present) := by
  unfold State.trayChange
  split
  · exact .refl s
  · split
    · have htray := (s.eases_modPins i fun p => { p with trayPresent := present }).trans
        (State.eases_modLocker i (f := fun r => { r with trayPresent := present, traySettle := none }) fun _ => rfl)
      dsimp only
      split
      · exact (htray.trans (State.eases_strike ..)).recompute i
      · exact htray
    · exact .refl s

theorem latchLaw_execAjar {s t : State} {i : Nat} (h : execAjar i s = .next t) (hs : s.LatchLaw) : t.LatchLaw := by
  obtain rfl := Host.Outcome.next.inj h
  split
  · exact hs
  · split
    · exact hs.eases ((State.eases_modLocker i (by intro; rfl)).trans (State.eases_notify ..))
    · exact hs

theorem latchLaw_execOpenWaitExpired {s t : State} {i : Nat} (h : execOpenWaitExpired i s = .next t)
    (hs : s.LatchLaw) : t.LatchLaw := by
  obtain rfl := Host.Outcome.next.inj h
  split
  · exact hs
  next r hr =>
    split
    · split
      · rw [State.modLocker_of_locker? hr]
        exact (s.latchLaw_iff.mp hs).1.requestLatch (State.mem_indices_of_locker? hr) rfl
      · refine hs.eases (State.Eases.recompute (State.Eases.trans ?_ (State.eases_strike ..)) i)
        refine State.eases_of_one (i := i) (by simp) (by simp) (by simp) (fun j hj => by simp [hj]) fun q hq => .inr ?_
        obtain rfl : _ = q := by simpa [hr] using hq
        simp
    · exact hs

/-! ### Ticks and the window end -/

theorem Locker.counted_cycle (r : Locker) (classes : List (Option ClassEntry)) : (r.counted classes).cycle = r.cycle :=
  (r.alike_counted classes).cycle

theorem Locker.retiredFor_cycle (r : Locker) (why : Option RetireReason) : (r.retiredFor why).cycle = r.cycle := by
  cases why <;> rfl

theorem latchLaw_execSecondTick {s t : State} (h : execSecondTick s = .next t) (hs : s.LatchLaw) : t.LatchLaw := by
  rw [execSecondTick_eq] at h
  obtain rfl := Host.Outcome.next.inj h
  refine hs.eases (State.Eases.trans ?_ (State.eases_recomputeAll _))
  refine State.eases_of_records (by simp) (by simp [Timebase.secondTick]) ?_ fun j q hq => .inl ?_
  · have := s.secondChecked_frame
    simp_all [State.count]
  · rw [State.withLockers_map_locker?, State.secondChecked_locker?, Option.map_map] at hq
    obtain ⟨r, hr, rfl⟩ := Option.map_eq_some_iff.mp hq
    exact ⟨r, hr, by simp [(Locker.alike_keepTick ..).cycle, Locker.retiredFor_cycle, Locker.counted_cycle]⟩

theorem Locker.minuteJudged_cycle (r : Locker) (classes : List (Option ClassEntry)) (clock : Option Nat) :
    (r.minuteJudged classes clock).cycle = r.cycle := by
  unfold Locker.minuteJudged
  repeat' split
  all_goals rfl

theorem State.eases_judgeMinute (s : State) (i : Nat) : s.Eases (s.judgeMinute i) :=
  State.eases_of_records (by simp) (by simp) (by simp) fun j q hq => by
    rw [State.judgeMinute_locker?] at hq
    split at hq
    · obtain ⟨r, hr, rfl⟩ := Option.map_eq_some_iff.mp hq
      exact .inl ⟨r, hr, r.minuteJudged_cycle ..⟩
    · exact .inl ⟨q, hq, rfl⟩

theorem latchLaw_execMinuteTick {s t : State} (h : execMinuteTick s = .next t) (hs : s.LatchLaw) : t.LatchLaw := by
  obtain rfl := Host.Outcome.next.inj h
  refine State.LatchLaw.eases (State.forEach_keeps (P := State.LatchLaw) ?_ fun t i _ ht => ?_) (State.eases_recomputeAll _)
  · exact hs.eases (State.eases_withTime rfl)
  · exact ht.eases (t.eases_judgeMinute i)

/-- R5: a reserved record has no door cycle. -/
theorem latchLaw_execWindowEnd {s t : State} {order : Nat} (h : execWindowEnd order s = .next t) (hs : s.LatchLaw) :
    t.LatchLaw := by
  rcases execWindowEnd_cases h with hq | ⟨u, e, i, r, hu, hr, -, -, -, -, ht⟩
  · exact hs.eases hq.eases
  · refine hs.eases (hu.eases.trans (State.Eases.trans (State.Eases.recompute ?_ i) ht.eases))
    refine State.eases_of_one (i := i) (by simp) (by simp) (by simp) (fun j hj => by simp [hj]) fun q hq => .inr ?_
    obtain rfl : r.reserve e = q := by simpa [hr] using hq
    simp [Locker.reserve]

/-! ### All rows, and the clockwork -/

theorem latchLaw_exec {c : Instr} {s t : State} (hs : s.LatchLaw) (h : exec c s = .next t) : t.LatchLaw := by
  by_cases hb : besideRecords c = true
  · exact (exec_besideRecords hb h).latchLaw hs
  cases c <;> simp only [besideRecords, not_true_eq_false] at hb
  case powerOnReset p =>
    obtain rfl := Host.Outcome.next.inj h
    exact s.latchLaw_powerOn p
  case warmRestart =>
    obtain rfl := Host.Outcome.next.inj h
    exact s.latchLaw_warmRestart
  case firstSweepReading => exact latchLaw_execFirstSweepReading h hs
  case probeSample => exact latchLaw_execProbeSample h hs
  case doorOpened => exact latchLaw_execDoorOpened h hs
  case doorClosed => exact latchLaw_execDoorClosed h hs
  case trayAppeared i =>
    obtain rfl := Host.Outcome.next.inj h
    exact hs.eases (s.eases_trayChange i true)
  case trayRemoved i =>
    obtain rfl := Host.Outcome.next.inj h
    exact hs.eases (s.eases_trayChange i false)
  case ajar => exact latchLaw_execAjar h hs
  case openWaitExpired => exact latchLaw_execOpenWaitExpired h hs
  case pulseEnded => exact latchLaw_execPulseEnded h hs
  case secondTick => exact latchLaw_execSecondTick h hs
  case minuteTick => exact latchLaw_execMinuteTick h hs
  case windowEnd => exact latchLaw_execWindowEnd h hs
  case supplyLowAsserted => exact latchLaw_execSupplyLowAsserted h hs
  case supplyLowCleared => exact latchLaw_execSupplyLowCleared h hs
  case claim src order score locker loaded => exact (moves_execClaim (src := src) (locker := locker) h).latchLaw hs
  case enterKey => exact (moves_execEnterKey h).latchLaw hs
  case load =>
    obtain rfl := Host.Outcome.next.inj h
    exact (s.moves_takeVerb _ (moves_inService moves_loadRule)).latchLaw hs
  case void =>
    obtain rfl := Host.Outcome.next.inj h
    exact (s.moves_takeVerb _ (moves_inService moves_voidRule)).latchLaw hs
  case clear =>
    obtain rfl := Host.Outcome.next.inj h
    exact (s.moves_takeVerb _ (moves_inService (moves_lockerRule fun _ _ _ => moves_clearRule))).latchLaw hs
  case block =>
    obtain rfl := Host.Outcome.next.inj h
    exact (s.moves_takeVerb _ (moves_inService (moves_lockerRule fun _ _ _ => moves_blockRule))).latchLaw hs
  case unblock =>
    obtain rfl := Host.Outcome.next.inj h
    exact (s.moves_takeVerb _ (moves_inService (moves_lockerRule fun _ _ _ h _ => moves_unblockRule h))).latchLaw hs
  case classWriteEnd =>
    rcases execClassWriteEnd_cases h with hq | ⟨w, -, hq⟩
    · exact hs.eases hq.eases
    · exact hs.eases ((State.eases_withTime (by rfl)).trans hq.eases)
  all_goals obtain rfl := Host.Outcome.next.inj h
  case time =>
    split
    · exact hs.eases (State.Eases.trans (State.eases_withTime (by rfl)) (State.eases_recomputeAll _))
    · exact hs
  case flashPhase => exact hs.eases ⟨rfl, rfl, rfl, fun _ _ hx => .inl hx⟩
  case lampFrame => exact hs.eases ⟨rfl, rfl, rfl, fun _ _ hx => .inl hx⟩
  all_goals split <;> exact hs.eases ⟨rfl, rfl, rfl, fun _ _ hx => .inl hx⟩

/-- R166, R170: a symbol time moves the pulse timer and no door cycle. -/
theorem State.latchLaw_idle {s : State} (hs : s.LatchLaw) : s.idle.LatchLaw := by
  unfold State.idle
  split
  · obtain ⟨⟨hn, hm, hq, hp⟩, hidle⟩ := s.latchLaw_iff.mp hs
    have hlatch : s.tick.latch = { s.latch with pulse := s.latch.pulse.map fun p => { p with time := p.time + 1 } } := rfl
    have hcyc : ∀ j, s.tick.cycleAt j = s.cycleAt j := fun j => by
      rw [State.cycleAt, s.tick_locker?, Option.map_map]
      exact Option.map_congr fun r _ => (r.alike_tick _).cycle
    refine (State.latchLaw_iff _).mpr ⟨⟨hn, ?_, fun j hj => hq j (hcyc j ▸ hj), fun j hj => ?_⟩, fun hnone hlow => ?_⟩
    · rw [State.indices_congr s.tick_count]
      exact hm
    · obtain ⟨p, hpulse, rfl⟩ := (s.latchSelect_iff j).mp (hp j (hcyc j ▸ hj))
      exact (State.latchSelect_iff ..).mpr ⟨{ p with time := p.time + 1 }, by rw [hlatch, hpulse]; rfl, rfl⟩
    · exact hidle (by simpa [hlatch] using hnone) hlow
  · exact hs

/-- Settles O11: a row leaves the latch driver and makes no record QUEUED, or hands the request of a record that becomes
QUEUED, or withdraws that of one that is QUEUED no more, or frees the driver for its head. -/
theorem latchLawKept : Obligations.LatchLawKept :=
  keptByStep_of_exec (fun _ => State.latchLaw_idle) (fun _ _ _ hs h => latchLaw_exec hs h) fun _ _ hs => hs

end Sys2Proof.Machine
end

section
/-! PROOFS. What a power-on reset sets (O4), and the words of the statements about one record. -/

namespace Sys2Proof.Machine

/-- Settles O4: the state is written out by the reset, and every record is a fresh one. -/
theorem powerOnResetSetsEveryBlock : Obligations.PowerOnResetSetsEveryBlock := by
  intro p s
  refine ⟨s.powerOn p, rfl, rfl, ?_, ?_, ?_, ?_, ?_, ?_, ?_, ?_, ?_, ?_, ?_, ?_⟩
  · simp [State.count, State.powerOn, lockerCount]
  · intro r hr
    rw [List.eq_of_mem_replicate hr]
    simp [Locker.init]
  · simp [State.powerOn, Timebase.init]
  · exact ⟨rfl, rfl⟩
  · simp [State.powerOn, State.reset, Keypad.init]
  · rfl
  · simp [State.powerOn, State.reset, Share.init]
  · simp [State.powerOn, State.reset, Grant.init]
  · have hclash : (p.station == 31#5) = decide (p.station.toNat = 31) := by simp [BitVec.toNat_eq, beq_eq_decide]
    have hwide : p.station.toNat < 256 := by omega
    simp [State.powerOn, Line.init, hclash, hwide]
  · exact ⟨rfl, rfl⟩
  · exact ⟨rfl, rfl, rfl⟩
  · simp [State.powerOn, State.reset, Timebase.init, Share.init, Grant.init, Config.shareOffset, Config.grantOffset,
      Config.ms, Config.ticksPerMs]

/-! ### What the statements ask of one record's row -/

/-- What may change in a row of one locker. -/
theorem State.lockerSideOnly_iff (s t : State) : s.LockerSideOnly t ↔
    t.straps = s.straps ∧ t.time = s.time ∧ t.scanAt = s.scanAt ∧ t.keypad = s.keypad ∧ t.book = s.book ∧
    t.share = s.share ∧ t.cip = s.cip ∧ t.lamp = s.lamp ∧ t.owed = s.owed ∧ t.ties = s.ties ∧
    t.pending = s.pending := by
  cases s; cases t; simp [State.LockerSideOnly]

/-- R49: a recomputation moves the phase, the keep cycle and the level alone. -/
theorem Locker.recomputed_but (r : Locker) (classes : List (Option ClassEntry)) (clock : Option Nat)
    (commission : Bool) : ({ r.recomputed classes clock commission with
      phase := r.phase, keepOn := r.keepOn, keepCount := r.keepCount } : Locker) =
    { r with level := (r.recomputed classes clock commission).level } := by
  have h := r.recomputed_fields classes clock commission
  cases r; simp_all

theorem State.recompute_locker?_self {s : State} {i : Nat} {r : Locker} (h : s.locker? i = some r) :
    (s.recompute i).locker? i = some (r.recomputed s.time.classes s.time.clock s.straps.commission) := by simp [h]

/-- R50, R52: a record in a state without heat keeps its phase, and its level is 0. -/
theorem Locker.recomputed_cold {r : Locker} (h : r.state.heats = false) (classes : List (Option ClassEntry))
    (clock : Option Nat) (commission : Bool) : r.recomputed classes clock commission = { r with level := 0 } := by
  simp [Locker.recomputed, Locker.judgePhase, Locker.levelNow, Locker.forcedOff, h]

/-- R52, R53: the phase of a record whose heat counts, judged from RAISE. -/
theorem Locker.recomputed_raised {r : Locker} {classes : List (Option ClassEntry)} {c : ClassEntry}
    (h : r.state.heats = true) (hc : r.figures classes = some c) (hp : r.phase = .raise) (clock : Option Nat)
    (commission : Bool) : (r.recomputed classes clock commission).phase = (if c.target ≤ r.temp then .keep else .raise) ∧
    (c.target ≤ r.temp → (r.recomputed classes clock commission).keepOn = true ∧
      (r.recomputed classes clock commission).keepCount = 0) := by
  by_cases ht : c.target ≤ r.temp <;> simp [Locker.recomputed, Locker.judgePhase, Locker.enterKeep, h, hc, hp, ht]

/-- R49, R66: the record of the locker stands recomputed, with the phase before of any record recomputed alike. -/
theorem State.recomputed_recompute_of {s : State} {i : Nat} {r p : Locker} (h : s.locker? i = some r)
    (hp : r.recomputed s.time.classes s.time.clock s.straps.commission =
      p.recomputed s.time.classes s.time.clock s.straps.commission) : (s.recompute i).Recomputed i p.phase := by
  intro q hq
  obtain rfl : r.recomputed s.time.classes s.time.clock s.straps.commission = q := by simpa [h] using hq
  refine ⟨by simpa [hp] using (p.recomputed_again ..).symm, fun h0 => ?_⟩
  rw [State.recompute_some h, if_pos h0]
  simp

theorem State.recomputed_recompute {s : State} {i : Nat} {r : Locker} (h : s.locker? i = some r) :
    (s.recompute i).Recomputed i r.phase := State.recomputed_recompute_of h rfl

/-- R66: a record recomputed to level 0 leaves the grant list. -/
theorem State.recompute_grant_off {s : State} {i : Nat} {r : Locker} (h : s.locker? i = some r)
    (h0 : (r.recomputed s.time.classes s.time.clock s.straps.commission).level = 0) :
    (s.recompute i).grant = { s.grant with list := s.grant.list.filter (· != i) } := by
  rw [State.recompute_some h, if_pos h0]
  simp

/-- R50: a record in a state without heat, recomputed. -/
theorem State.recompute_locker?_cold {s : State} {i : Nat} {r : Locker} (h : s.locker? i = some r)
    (hc : r.state.heats = false) : (s.recompute i).locker? i = some { r with level := 0 } := by
  rw [State.recompute_locker?_self h, Locker.recomputed_cold hc]

/-- R50, R66: a record in a state without heat leaves the grant list. -/
theorem State.recompute_grant_cold {s : State} {i : Nat} {r : Locker} (h : s.locker? i = some r)
    (hc : r.state.heats = false) :
    (s.recompute i).grant = { s.grant with list := s.grant.list.filter (· != i) } :=
  State.recompute_grant_off h (by rw [Locker.recomputed_cold hc])

/-- R8: a fault strikes the state and the reasons alone. -/
@[simp] theorem Locker.toFault_fields (r : Locker) (why : FaultReason) :
    (r.toFault why).state = .fault ∧ (r.toFault why).faultReason = some why ∧
    (r.toFault why).swept = r.swept ∧ (r.toFault why).phase = r.phase ∧ (r.toFault why).order = r.order ∧
    (r.toFault why).cycle = r.cycle ∧ (r.toFault why).attempts = r.attempts ∧
    (r.toFault why).openWait = r.openWait ∧ (r.toFault why).ajar = r.ajar ∧
    (r.toFault why).ajarGiven = r.ajarGiven ∧ (r.toFault why).ready = r.ready ∧ (r.toFault why).cold = r.cold ∧
    (r.toFault why).holdAge = r.holdAge ∧ (r.toFault why).temp = r.temp ∧ (r.toFault why).doorOpen = r.doorOpen ∧
    (r.toFault why).trayPresent = r.trayPresent := by
  by_cases hf : r.state = .fault <;> simp [Locker.toFault, hf]

/-- R8: a record that was not in FAULT loses its retire reason and its void pending. -/
theorem Locker.toFault_new {r : Locker} (h : r.state ≠ .fault) (why : FaultReason) :
    (r.toFault why).retireReason = none ∧ (r.toFault why).voidPending = false := by simp [Locker.toFault, h]

/-- R8: the notice of a fault. -/
theorem State.strike_line {s : State} {i : Nat} {r : Locker} (h : s.locker? i = some r) (why : FaultReason) :
    (s.strike i why).line = if r.state = .fault ∧ r.faultReason = some why then s.line
      else s.line.pushNotice ⟨i, .fault, .fault why, r.orderNumber, false⟩ := by
  rw [State.strike_some h]
  split <;> simp

/-- R7: the notice of a retirement. -/
theorem State.retire_line {s : State} {i : Nat} {r : Locker} (h : s.locker? i = some r) (why : RetireReason) :
    (s.retire i why).line = s.line.pushNotice ⟨i, .retired, .retire why, r.orderNumber, false⟩ := by
  rw [State.retire_some h]
  simp

/-- R7: a retirement moves the state, the reasons and void pending alone. -/
@[simp] theorem Locker.retiredFor_fields (r : Locker) (why : Option RetireReason) :
    (r.retiredFor why).swept = r.swept ∧ (r.retiredFor why).phase = r.phase ∧ (r.retiredFor why).order = r.order ∧
    (r.retiredFor why).cycle = r.cycle ∧ (r.retiredFor why).attempts = r.attempts ∧
    (r.retiredFor why).openWait = r.openWait ∧ (r.retiredFor why).ajar = r.ajar ∧
    (r.retiredFor why).ready = r.ready ∧ (r.retiredFor why).cold = r.cold ∧
    (r.retiredFor why).holdAge = r.holdAge ∧ (r.retiredFor why).temp = r.temp ∧
    (r.retiredFor why).faultRun = r.faultRun ∧ (r.retiredFor why).doorOpen = r.doorOpen ∧
    (r.retiredFor why).trayPresent = r.trayPresent := by
  cases why <;> simp [Locker.retiredFor, Locker.toRetired]

/-- R42, R44: what it is for a minute of the day to be due. -/
theorem isDue_iff (clock : Option Nat) (t : Nat) :
    isDue clock t = true ↔ ∃ now, clock = some now ∧ DueAt now t := by
  cases clock with
  | none => simp [isDue]
  | some now =>
    have hlo : 0 ≤ ((t : Int) - now) % 1440 := Int.emod_nonneg _ (by decide)
    have hm : ((minutesAhead now t : Nat) : Int) = ((t : Int) - now) % 1440 := Int.toNat_of_nonneg hlo
    simp only [isDue, DueAt, Option.some.injEq, exists_eq_left', Bool.not_eq_true', decide_eq_false_iff_not, ← hm]
    omega

/-- R21: the verdict of the hold checks, in their order. -/
theorem Locker.holdVerdict_some {r : Locker} {o : OrderPart} {classes : List (Option ClassEntry)} {c : ClassEntry}
    (ho : r.order = some o) (hc : r.figures classes = some c) (clock : Option Nat) :
    r.holdVerdict classes clock =
      if c.coldLimit ≤ r.cold then some .cold
      else if c.longest * 60 ≤ r.holdAge ∨ ∃ now, clock = some now ∧ DueAt now ((o.collectBy + c.grace) % 1440)
      then some .expired
      else none := by
  simp only [Locker.holdVerdict, ho, hc, isDue_iff, expiryMinute]

/-- A row of one locker: the other records stand, and so does every block but those of `State.LockerSideOnly`. -/
structure State.OneRow (s : State) (i : Nat) (t : State) : Prop where
  others : s.OthersKept t i
  side : s.LockerSideOnly t

theorem State.OneRow.refl (s : State) (i : Nat) : s.OneRow i s := ⟨⟨rfl, fun _ _ => rfl⟩, rfl⟩

theorem State.OneRow.trans {s t u : State} {i : Nat} (h : s.OneRow i t) (h' : t.OneRow i u) : s.OneRow i u where
  others := ⟨h'.others.1.trans h.others.1, fun j hj => (h'.others.2 j hj).trans (h.others.2 j hj)⟩
  side := by
    have hs := (State.lockerSideOnly_iff ..).mp h.side
    have hs' := (State.lockerSideOnly_iff ..).mp h'.side
    exact (State.lockerSideOnly_iff ..).mpr (by simpa only [hs] using hs')

/-! The operations of a row of one locker. -/

section
variable (s : State) (i : Nat)

theorem State.oneRow_modLocker (f : Locker → Locker) : s.OneRow i (s.modLocker i f) :=
  ⟨⟨by simp, fun j hj => by simp [hj]⟩, by simp [State.lockerSideOnly_iff]⟩

theorem State.oneRow_modPins (f : LockerPins → LockerPins) : s.OneRow i (s.modPins i f) :=
  ⟨⟨by simp, fun j hj => by simp⟩, by simp [State.lockerSideOnly_iff]⟩

theorem State.oneRow_notify (e : NoticeEvent) (why : NoticeReason) (n : Nat) : s.OneRow i (s.notify i e why n) :=
  ⟨⟨by simp, fun j hj => by simp⟩, by simp [State.lockerSideOnly_iff]⟩

theorem State.oneRow_vacate : s.OneRow i (s.vacate i) :=
  ⟨⟨by simp, fun j hj => by simp [hj]⟩, by simp [State.lockerSideOnly_iff]⟩

theorem State.oneRow_retire (why : RetireReason) : s.OneRow i (s.retire i why) :=
  ⟨⟨by simp, fun j hj => by simp [hj]⟩, by simp [State.lockerSideOnly_iff]⟩

theorem State.oneRow_strike (why : FaultReason) : s.OneRow i (s.strike i why) :=
  ⟨⟨by simp, fun j hj => by simp [hj]⟩, by simp [State.lockerSideOnly_iff]⟩

theorem State.oneRow_withdrawLatch : s.OneRow i (s.withdrawLatch i) :=
  ⟨⟨by simp, fun j hj => by simp⟩, by simp [State.lockerSideOnly_iff]⟩

theorem State.oneRow_takeResult : s.OneRow i (s.takeResult i) :=
  ⟨⟨by simp, fun j hj => by simp [hj]⟩, by simp [State.lockerSideOnly_iff]⟩

theorem State.oneRow_judgeClose (r : Locker) : s.OneRow i (s.judgeClose i r) :=
  ⟨⟨by simp, fun j hj => by simp [hj]⟩, by simp [State.lockerSideOnly_iff]⟩

theorem State.oneRow_recompute : s.OneRow i (s.recompute i) :=
  ⟨⟨by simp, fun j hj => by simp [hj]⟩, by simp [State.lockerSideOnly_iff]⟩

theorem State.oneRow_takeOpening : s.OneRow i (s.takeOpening i) := by
  cases h : s.locker? i with
  | none => simpa [State.takeOpening, h] using State.OneRow.refl s i
  | some r =>
    rcases State.takeOpening_cases h with ⟨-, ho⟩ | ⟨-, ho⟩ | ⟨-, ho⟩ | ⟨-, ho⟩ <;> rw [ho]
    · exact s.oneRow_modLocker i _
    · exact .refl s i
    · exact (s.oneRow_withdrawLatch i).trans (State.oneRow_modLocker ..)
    · exact ((s.oneRow_withdrawLatch i).trans (State.oneRow_modLocker ..)).trans (State.oneRow_strike ..)

theorem State.oneRow_takeClose : s.OneRow i (s.takeClose i) := by
  cases h : s.locker? i with
  | none => simpa [State.takeClose, h] using State.OneRow.refl s i
  | some r =>
    rcases State.takeClose_cases h with ⟨-, ho⟩ | ⟨-, ho⟩ <;> rw [ho]
    · exact .refl s i
    · exact (s.oneRow_judgeClose i r).trans (State.oneRow_modLocker ..)

end

end Sys2Proof.Machine
end

section
/-! PROOFS. Doors: openings (O25, O26) and closes (O27 to O29). -/

namespace Sys2Proof.Machine

/-! ### Openings (R13, R14) -/

/-- R13: a record whose door cycle an opening completes. -/
def Locker.releaseDone (r : Locker) : Locker := { r.openedNow with cycle := .opened, openWait := none }

/-- R13, R14, R171: the state in which an opening is judged. -/
def State.doorRead (s : State) (i : Nat) : State :=
  (s.modPins i fun p => { p with doorOpen := true }).modLocker i Locker.openedNow

theorem State.execDoorOpened_eq {s : State} {i : Nat} {r : Locker} (h : s.locker? i = some r) (hs : r.swept = true)
    (hd : r.doorOpen = false) : execDoorOpened i s = .next (((s.doorRead i).takeOpening i).recompute i) := by
  simp [execDoorOpened, State.doorRead, h, hs, hd]

theorem State.oneRow_doorRead (s : State) (i : Nat) : s.OneRow i (s.doorRead i) :=
  (s.oneRow_modPins i _).trans (State.oneRow_modLocker ..)

theorem State.oneRow_opening (s : State) (i : Nat) : s.OneRow i (((s.doorRead i).takeOpening i).recompute i) :=
  ((s.oneRow_doorRead i).trans (State.oneRow_takeOpening ..)).trans (State.oneRow_recompute ..)

@[simp] theorem State.doorRead_frame (s : State) (i : Nat) :
    (s.doorRead i).latch = s.latch ∧ (s.doorRead i).line = s.line ∧ (s.doorRead i).grant = s.grant ∧
    (s.doorRead i).time = s.time ∧ (s.doorRead i).straps = s.straps := by simp [State.doorRead]

theorem State.doorRead_locker? {s : State} {i : Nat} {r : Locker} (h : s.locker? i = some r) :
    (s.doorRead i).locker? i = some r.openedNow := by simp [State.doorRead, h]

@[simp] theorem State.completeRelease_frame (s : State) (i : Nat) :
    (s.completeRelease i).latch = s.latch ∧ (s.completeRelease i).line = s.line ∧
    (s.completeRelease i).grant = s.grant := by simp [State.completeRelease]

@[simp] theorem State.maintenanceOpening_frame (s : State) (i : Nat) :
    (s.maintenanceOpening i).latch = ⟨s.latch.queue.filter (· != i), s.latch.pulse⟩ ∧
    (s.maintenanceOpening i).line = s.line ∧ (s.maintenanceOpening i).grant = s.grant := by
  simp [State.maintenanceOpening]

@[simp] theorem State.forcedOpening_frame (s : State) (i : Nat) :
    (s.forcedOpening i).latch = ⟨s.latch.queue.filter (· != i), s.latch.pulse⟩ ∧
    (s.forcedOpening i).grant = s.grant := by
  simp [State.forcedOpening]

/-- R50: an open door gives level 0. -/
theorem Locker.recomputed_open {r : Locker} (h : r.doorOpen = true) (classes : List (Option ClassEntry))
    (clock : Option Nat) (commission : Bool) : (r.recomputed classes clock commission).level = 0 :=
  Locker.recomputed_forced (by simp [Locker.forcedOff, h])

/-- R50, R66: an opened locker leaves the grant list. -/
theorem State.recompute_grant_open {s : State} {i : Nat} {r : Locker} (h : s.locker? i = some r)
    (hd : r.doorOpen = true) : (s.recompute i).grant = { s.grant with list := s.grant.list.filter (· != i) } :=
  State.recompute_grant_off h (Locker.recomputed_open hd ..)

/-- Settles O25: the opening completes the release before the record is recomputed behind an open door. -/
theorem releasedOpeningOpensCycle : Obligations.ReleasedOpeningOpensCycle := by
  intro i s r hr hs hd hc
  have hread := State.doorRead_locker? hr
  have htake : (s.doorRead i).takeOpening i = (s.doorRead i).completeRelease i := by
    rcases State.takeOpening_cases hread with ⟨-, ho⟩ | ⟨hn, -⟩ | ⟨⟨hn, -⟩, -⟩ | ⟨⟨hn, -⟩, -⟩
    · exact ho
    all_goals simp only [Locker.openedNow] at hn; grind
  have hdone : ((s.doorRead i).completeRelease i).locker? i = some r.releaseDone := by
    simp [State.completeRelease, hread, Locker.releaseDone]
  have hrow := s.oneRow_opening i
  have hexec := State.execDoorOpened_eq hr hs hd
  rw [htake] at hrow hexec
  have hoff : (r.releaseDone.recomputed ((s.doorRead i).completeRelease i).time.classes
      ((s.doorRead i).completeRelease i).time.clock ((s.doorRead i).completeRelease i).straps.commission).level = 0 :=
    Locker.recomputed_open rfl ..
  refine ⟨_, _, hexec, State.recompute_locker?_self hdone, ?_, ?_, ?_, ?_, hrow.others, hrow.side⟩
  · rw [← show _ = r.keepCount from rfl]
    exact (r.releaseDone.recomputed_but ..).trans (by rw [hoff]; rfl)
  · simp
  · simp
  · simp [State.recompute_grant_open hdone rfl]

/-- Settles O26: an opening that no cycle awaits is maintenance of a BLOCKED locker, and strikes any other. -/
theorem forcedOpeningFaults : Obligations.ForcedOpeningFaults := by
  intro i s r hr hs hd hc
  have hread := State.doorRead_locker? hr
  have hrow := s.oneRow_opening i
  have hexec := State.execDoorOpened_eq hr hs hd
  rcases State.takeOpening_cases hread with ⟨hn, -⟩ | ⟨hn, -⟩ | ⟨⟨-, hb⟩, ho⟩ | ⟨⟨-, hb⟩, ho⟩
  · simp only [Locker.openedNow] at hn; grind
  · simp only [Locker.openedNow] at hn; grind
  · rw [ho] at hrow hexec
    have hb : r.state = .blocked := hb
    have hq : ((s.doorRead i).maintenanceOpening i).locker? i = some { r.openedNow with cycle := .opened } := by
      simp [State.maintenanceOpening, hread]
    refine ⟨_, _, hexec, State.recompute_locker?_self hq, ?_, ?_, ?_, ?_, ?_, ?_, ?_, ?_, Locker.recomputed_open rfl ..,
      ?_, ?_, fun _ => ?_, fun h => absurd hb h, hrow.others, hrow.side⟩
    all_goals simp [hb, State.recompute_grant_open hq rfl, Locker.openedNow]
  · rw [ho] at hrow hexec
    have hb : r.state ≠ .blocked := hb
    have hq : ((s.doorRead i).forcedOpening i).locker? i = some (r.openedNow.ended.toFault .forced) := by
      simp [State.forcedOpening, hread, Locker.ended]
    have hopen : (r.openedNow.ended.toFault .forced).doorOpen = true := by simp [Locker.ended, Locker.openedNow]
    have hline : ((s.doorRead i).forcedOpening i).line = if r.state = .fault ∧ r.faultReason = some .forced then s.line
        else s.line.pushNotice ⟨i, .fault, .fault .forced, r.orderNumber, false⟩ := by
      rw [State.forcedOpening, State.strike_line (r := r.openedNow.ended) (by simp [hread, Locker.ended])]
      simp [Locker.ended, Locker.openedNow, Locker.orderNumber]
    refine ⟨_, _, hexec, State.recompute_locker?_self hq, ?_, ?_, ?_, ?_, ?_, ?_, ?_, ?_, Locker.recomputed_open hopen ..,
      ?_, ?_, fun h => absurd h hb, fun _ => ⟨?_, ?_, ?_, ?_, fun hf => ?new, ?_⟩, hrow.others, hrow.side⟩
    case new => simpa using Locker.toFault_new (r := r.openedNow.ended) hf .forced
    all_goals simp [State.recompute_grant_open hq hopen, hline, Locker.ended, Locker.openedNow]

/-! ### Closes (R17 to R23) -/

/-- R17, R171: the state in which a close is judged. -/
def State.doorShut (s : State) (i : Nat) : State :=
  (s.modPins i fun p => { p with doorOpen := false }).modLocker i Locker.shut

/-- R17, R49: the state after a close. -/
def State.doorClosed (s : State) (i : Nat) : State := ((s.doorShut i).takeClose i).recompute i

theorem State.execDoorClosed_eq {s : State} {i : Nat} {r : Locker} (h : s.locker? i = some r) (hs : r.swept = true)
    (hd : r.doorOpen = true) : execDoorClosed i s = .next (s.doorClosed i) := by
  simp only [execDoorClosed, h, hs, hd, and_self, if_true]
  rfl

@[simp] theorem State.doorShut_frame (s : State) (i : Nat) :
    (s.doorShut i).latch = s.latch ∧ (s.doorShut i).line = s.line ∧ (s.doorShut i).grant = s.grant ∧
    (s.doorShut i).time = s.time ∧ (s.doorShut i).straps = s.straps := by simp [State.doorShut]

theorem State.doorShut_locker? {s : State} {i : Nat} {r : Locker} (h : s.locker? i = some r) :
    (s.doorShut i).locker? i = some r.shut := by simp [State.doorShut, h]

@[simp] theorem Locker.shut_orderNumber (r : Locker) : r.shut.orderNumber = r.orderNumber := rfl

theorem State.oneRow_doorClosed (s : State) (i : Nat) : s.OneRow i (s.doorClosed i) :=
  (((s.oneRow_modPins i _).trans (State.oneRow_modLocker ..)).trans (State.oneRow_takeClose ..)).trans
    (State.oneRow_recompute ..)

/-- R17: a close that ends an OPEN cycle, by what the judged close makes of the record. -/
theorem State.doorClosed_opened {s : State} {i : Nat} {r p : Locker} (hr : s.locker? i = some r)
    (hc : r.cycle = .opened) (hp : ((s.doorShut i).judgeClose i r.shut).locker? i = some p) :
    (s.doorClosed i).locker? i = some (p.ended.recomputed s.time.classes s.time.clock s.straps.commission) ∧
    (s.doorClosed i).latch = s.latch ∧ (s.doorClosed i).line = ((s.doorShut i).judgeClose i r.shut).line ∧
    ∀ x : Locker, p.ended.recomputed s.time.classes s.time.clock s.straps.commission =
      x.recomputed s.time.classes s.time.clock s.straps.commission → (s.doorClosed i).Recomputed i x.phase := by
  have htake : (s.doorShut i).takeClose i = ((s.doorShut i).judgeClose i r.shut).modLocker i Locker.ended := by
    rcases State.takeClose_cases (State.doorShut_locker? hr) with ⟨hn, -⟩ | ⟨-, ho⟩
    · exact absurd hc hn
    · exact ho
  have hend : (((s.doorShut i).judgeClose i r.shut).modLocker i Locker.ended).locker? i = some p.ended := by simp [hp]
  unfold State.doorClosed
  rw [htake]
  refine ⟨by simpa using State.recompute_locker?_self hend, by simp, by simp, fun x hx => ?_⟩
  exact State.recomputed_recompute_of hend (by simpa using hx)

/-- R18, R52: the phase that a loaded meal begins with is the one that RAISE is judged to be. -/
theorem Locker.recomputed_phaseAtLoad {r : Locker} {classes : List (Option ClassEntry)} {c : ClassEntry}
    (h : r.state.heats = true) (hc : r.figures classes = some c) (clock : Option Nat) (commission : Bool) :
    (r.phaseAtLoad classes).recomputed classes clock commission =
      ({ r with phase := .raise } : Locker).recomputed classes clock commission := by
  have hc' : r.enterKeep.figures classes = some c ∧ ({ r with phase := .raise } : Locker).figures classes = some c :=
    ⟨hc, hc⟩
  by_cases ht : c.target ≤ r.temp
  · have hn : ¬ r.temp + 2 < c.target := by omega
    have hj : r.enterKeep.judgePhase classes = r.enterKeep ∧
        ({ r with phase := .raise } : Locker).judgePhase classes = r.enterKeep := by
      constructor
      · rw [Locker.judgePhase, hc'.1]
        simp [Locker.enterKeep, h, hn]
      · rw [Locker.judgePhase, hc'.2]
        simp [Locker.enterKeep, h, ht]
    simp [Locker.recomputed, Locker.phaseAtLoad, hc, ht, hj]
  · simp [Locker.phaseAtLoad, hc, ht]

theorem Locker.phaseAtLoad_ended (r : Locker) (classes : List (Option ClassEntry)) :
    (r.phaseAtLoad classes).ended = r.ended.phaseAtLoad classes := by
  have hf : r.ended.figures classes = r.figures classes := rfl
  unfold Locker.phaseAtLoad
  rw [hf]
  cases r.figures classes with
  | none => rfl
  | some c => by_cases ht : c.target ≤ r.temp <;> simp [Locker.ended, Locker.enterKeep, ht]

/-- R18: what a close with the tray present makes of a LOADING record. -/
theorem State.judgeClose_loaded (s : State) (i : Nat) {r : Locker} (hs : r.state = .loading)
    (ht : r.trayPresent = true) (hv : r.voidPending = false) : s.judgeClose i r =
      (s.modLocker i fun r => r.loaded.phaseAtLoad s.time.classes).notify i .loaded .none r.orderNumber := by
  simp [State.judgeClose, State.loadClose, hs, ht, hv, Locker.loaded]

theorem State.judgeClose_voided (s : State) (i : Nat) {r : Locker} (hs : r.state = .loading)
    (ht : r.trayPresent = true) (hv : r.voidPending = true) : s.judgeClose i r = s.retire i .voided := by
  simp [State.judgeClose, State.loadClose, hs, ht, hv]

theorem State.judgeClose_unloaded (s : State) (i : Nat) {r : Locker} (hs : r.state = .loading)
    (ht : r.trayPresent = false) (hv : r.voidPending = false) : s.judgeClose i r = s.modLocker i Locker.unloaded := by
  simp only [State.judgeClose, State.emptyLoadClose, hs, ht, hv]
  rfl

theorem State.judgeClose_cancelled (s : State) (i : Nat) {r : Locker} (hs : r.state = .loading)
    (ht : r.trayPresent = false) (hv : r.voidPending = true) :
    s.judgeClose i r = (s.notify i .cancelled .none r.orderNumber).vacate i := by
  simp [State.judgeClose, State.emptyLoadClose, hs, ht, hv]

/-- Settles O27: by the tray and void pending, the four closes of a LOADING record. -/
theorem loadCloseHoldsOrReverts : Obligations.LoadCloseHoldsOrReverts := by
  intro i s r o c hr hs hd hc hst ho hf
  have hrow := s.oneRow_doorClosed i
  have hexec := State.execDoorClosed_eq hr hs hd
  have hshut := State.doorShut_locker? hr
  have hnum : r.shut.orderNumber = o.order := by simp [Locker.orderNumber, Locker.shut, ho]
  cases ht : r.trayPresent <;> cases hv : r.voidPending
  · have hj := (s.doorShut i).judgeClose_unloaded i (r := r.shut) hst ht hv
    obtain ⟨hq, hl, hn, hre⟩ := State.doorClosed_opened hr hc (p := r.shut.unloaded) (by simp [hj, hshut])
    obtain ⟨hph, -⟩ := Locker.recomputed_raised (r := r.shut.unloaded.ended) rfl hf rfl s.time.clock s.straps.commission
    rw [hj] at hn
    refine ⟨_, _, hexec, hq, ?_, ?_, ?_, ?_, ?_, ?_, hl, hrow.others, hrow.side, hre _ rfl, ?_, ?_,
      fun _ _ => ⟨?_, ?_, ?_, hph⟩, ?_⟩
    all_goals simp [Locker.ended, Locker.unloaded, Locker.shut, ht, hv, hn, ho]
  · have hj := (s.doorShut i).judgeClose_cancelled i (r := r.shut) hst ht hv
    obtain ⟨hq, hl, hn, hre⟩ := State.doorClosed_opened hr hc (p := r.shut.toVacant) (by simp [hj, hshut])
    have hlist := (hre _ rfl _ hq).2
    simp only [hj, State.vacate_frame, State.notify_line, hnum, State.doorShut_frame] at hn
    rw [Locker.recomputed_cold rfl] at hq hlist
    refine ⟨_, _, hexec, hq, rfl, rfl, rfl, rfl, rfl, ?_, hl, hrow.others, hrow.side, hre _ rfl, ?_, ?_, ?_,
      fun _ _ => ⟨rfl, rfl, rfl, rfl, rfl, rfl, rfl, rfl, rfl, rfl, hlist rfl, ?_⟩⟩
    all_goals simp [Locker.ended, Locker.toVacant, Locker.shut, ht, hv, hn]
  · have hj := (s.doorShut i).judgeClose_loaded i (r := r.shut) hst ht hv
    obtain ⟨hq, hl, hn, hre⟩ := State.doorClosed_opened hr hc (p := r.shut.loaded.phaseAtLoad s.time.classes)
      (by simp [hj, hshut])
    simp only [hj, State.modLocker_frame, State.notify_line, hnum, State.doorShut_frame] at hn
    have hsame : (r.shut.loaded.phaseAtLoad s.time.classes).ended.recomputed s.time.classes s.time.clock
        s.straps.commission = ({ r.shut.loaded.ended with phase := .raise } : Locker).recomputed s.time.classes
          s.time.clock s.straps.commission := by
      rw [Locker.phaseAtLoad_ended]
      exact Locker.recomputed_phaseAtLoad (r := r.shut.loaded.ended) rfl hf ..
    have hrec := hre _ hsame
    rw [hsame] at hq
    obtain ⟨hph, hkeep⟩ := Locker.recomputed_raised (r := { r.shut.loaded.ended with phase := .raise }) rfl hf rfl
      s.time.clock s.straps.commission
    refine ⟨_, _, hexec, hq, ?_, ?_, ?_, ?_, ?_, ?_, hl, hrow.others, hrow.side, hrec,
      fun _ _ => ⟨?_, ?_, ?_, ?_, ?_, ?phase, ?_⟩, ?_, ?_, ?_⟩
    case phase =>
      by_cases hw : c.target ≤ r.temp
      · rw [if_pos hw]
        exact ⟨hph.trans (if_pos hw), hkeep hw⟩
      · rw [if_neg hw]
        exact hph.trans (if_neg hw)
    all_goals simp [Locker.ended, Locker.loaded, Locker.shut, ht, hv, hn, ho]
  · have hj := (s.doorShut i).judgeClose_voided i (r := r.shut) hst ht hv
    obtain ⟨hq, hl, hn, hre⟩ := State.doorClosed_opened hr hc (p := r.shut.toRetired .voided) (by simp [hj, hshut])
    have hlist := (hre _ rfl _ hq).2
    rw [hj, State.retire_line hshut, hnum] at hn
    rw [Locker.recomputed_cold rfl] at hq hlist
    refine ⟨_, _, hexec, hq, rfl, rfl, rfl, rfl, rfl, ?_, hl, hrow.others, hrow.side,
      hre (r.shut.toRetired .voided).ended rfl, ?_, fun _ _ => ⟨rfl, rfl, rfl, rfl, ?_, rfl, hlist rfl, ?_⟩, ?_, ?_⟩
    all_goals simp [Locker.ended, Locker.toRetired, Locker.shut, ht, hv, hn, ho]

theorem State.judgeClose_collected (s : State) (i : Nat) {r : Locker} (hs : r.state = .releasing)
    (ht : r.trayPresent = false) : s.judgeClose i r = (s.notify i .collected .none r.orderNumber).vacate i := by
  simp [State.judgeClose, State.collect, hs, ht]

theorem State.judgeClose_returned (s : State) (i : Nat) {r : Locker} (hs : r.state = .releasing)
    (ht : r.trayPresent = true) : s.judgeClose i r =
      ((s.modLocker i Locker.returned).notify i .returned .none r.orderNumber).holdChecks i := by
  simp only [State.judgeClose, State.returnMeal, hs, ht]
  rfl

/-- Settles O28: a collected meal leaves a VACANT record, and a returned one is judged by the hold checks. -/
theorem releaseCloseCollectsOrReturns : Obligations.ReleaseCloseCollectsOrReturns := by
  intro i s r o c hr hs hd hc hst ho hf
  have hrow := s.oneRow_doorClosed i
  have hexec := State.execDoorClosed_eq hr hs hd
  have hshut := State.doorShut_locker? hr
  have hnum : r.shut.orderNumber = o.order := by simp [Locker.orderNumber, Locker.shut, ho]
  cases ht : r.trayPresent
  · have hj := (s.doorShut i).judgeClose_collected i (r := r.shut) hst ht
    obtain ⟨hq, hl, hn, hre⟩ := State.doorClosed_opened hr hc (p := r.shut.toVacant) (by simp [hj, hshut])
    have hlist := (hre _ rfl _ hq).2
    simp only [hj, State.vacate_frame, State.notify_line, hnum, State.doorShut_frame] at hn
    rw [Locker.recomputed_cold rfl] at hq hlist
    exact ⟨_, _, hexec, hq, rfl, rfl, rfl, rfl, rfl, hl, hrow.others, hrow.side, hre _ rfl,
      fun _ => ⟨rfl, rfl, rfl, rfl, rfl, rfl, rfl, rfl, rfl, rfl, hlist rfl, hn⟩, by simp⟩
  · have hj := (s.doorShut i).judgeClose_returned i (r := r.shut) hst ht
    have hback : (((s.doorShut i).modLocker i Locker.returned).notify i .returned .none r.shut.orderNumber).locker? i =
        some r.shut.returned := by simp [hshut]
    have hverdict : r.shut.returned.holdVerdict s.time.classes s.time.clock = if c.coldLimit ≤ r.cold then some .cold
        else if c.longest * 60 ≤ r.holdAge ∨ ∃ now, s.time.clock = some now ∧ DueAt now ((o.collectBy + c.grace) % 1440)
        then some .expired else none := Locker.holdVerdict_some (r := r.shut.returned) (o := o) ho hf s.time.clock
    obtain ⟨hq, hl, hn, hre⟩ := State.doorClosed_opened hr hc
      (p := r.shut.returned.retiredFor (r.shut.returned.holdVerdict s.time.classes s.time.clock))
      (by rw [hj, State.holdChecks_locker?, if_pos rfl, hback]; simp)
    rw [hj, State.holdChecks_line hback] at hn
    simp only [State.notify_frame, State.modLocker_frame, State.notify_line, State.doorShut_frame, hnum] at hn
    refine ⟨_, _, hexec, hq, ?_, ?_, ?_, ?_, ?_, hl, hrow.others, hrow.side, ?rec, by simp,
      fun _ => ⟨?_, ?_, ?_, ?_, ?verdict⟩⟩
    case rec => simpa [Locker.ended, Locker.shut, Locker.returned] using hre _ rfl
    case verdict =>
      have hnotice : ∀ why, r.shut.returned.retireNotice i why = ⟨i, .retired, .retire why, o.order, false⟩ :=
        fun why => by rw [← hnum]; rfl
      split
      next h =>
        rw [hverdict, if_pos h] at hn ⊢
        simpa [hnotice, Locker.retiredFor, Locker.ended, Locker.toRetired] using hn
      next h =>
        rw [if_neg h] at hverdict
        split
        next h' =>
          rw [hverdict, if_pos h'] at hn ⊢
          simpa [hnotice, Locker.retiredFor, Locker.ended, Locker.toRetired] using hn
        next h' =>
          rw [hverdict, if_neg h'] at hn ⊢
          simpa [Locker.retiredFor, Locker.ended, Locker.returned] using hn
    all_goals simp [Locker.ended, Locker.shut, Locker.returned, ho]

/-- R17: a judged close leaves what the door has become. -/
theorem State.judgeClose_sensed {s : State} {i : Nat} {r : Locker} (h : s.locker? i = some r) :
    ∃ p, (s.judgeClose i r).locker? i = some p ∧ p.doorOpen = r.doorOpen ∧ p.ajar = r.ajar := by
  rcases s.judgeClose_cases i r with ⟨-, ho⟩ | ⟨why, ho⟩ | ⟨e, ho⟩ | ⟨-, ho⟩ | ⟨-, ho⟩ | ⟨-, ho⟩ <;> rw [ho]
  · exact ⟨r, h, rfl, rfl⟩
  · exact ⟨r.toRetired why, by simp [h], rfl, rfl⟩
  · exact ⟨r.toVacant, by simp [h], rfl, rfl⟩
  · refine ⟨r.loaded.phaseAtLoad s.time.classes, by simp [h], ?_, ?_⟩ <;>
      (unfold Locker.phaseAtLoad Locker.enterKeep; repeat' split) <;> rfl
  · exact ⟨r.unloaded, by simp [h], rfl, rfl⟩
  · exact ⟨_, by rw [State.holdChecks_locker?]; simp [h]; rfl, by simp [Locker.returned], by simp [Locker.returned]⟩

theorem State.judgeClose_cleared (s : State) (i : Nat) {r : Locker} (hs : r.state = .retired ∨ r.state = .fault)
    (ht : r.trayPresent = false) : s.judgeClose i r = (s.notify i .cleared .none r.orderNumber).vacate i := by
  rcases hs with hs | hs <;> simp [State.judgeClose, State.clearingClose, hs, ht]

theorem State.judgeClose_unknown (s : State) (i : Nat) {r : Locker} (hs : r.state = .vacant)
    (ht : r.trayPresent = true) : s.judgeClose i r = s.retire i .unknown := by
  simp [State.judgeClose, hs, ht]

/-- R22, R23: the closes that leave the record. -/
theorem State.judgeClose_left (s : State) (i : Nat) {r : Locker} (hl : r.state ≠ .loading ∧ r.state ≠ .releasing)
    (hc : (r.state = .retired ∨ r.state = .fault) → r.trayPresent = true)
    (hv : r.state = .vacant → r.trayPresent = false) : s.judgeClose i r = s := by
  cases hs : r.state <;> cases ht : r.trayPresent <;> simp [State.judgeClose, hs, ht] at hl hc hv ⊢

/-- Settles O29: a close that ends no cycle judges nothing; one that ends a cycle clears, retires or leaves. -/
theorem otherClosesClearOrRetire : Obligations.OtherClosesClearOrRetire := by
  intro i s r hr hs hd
  have hrow := s.oneRow_doorClosed i
  have hexec := State.execDoorClosed_eq hr hs hd
  have hshut := State.doorShut_locker? hr
  by_cases hc : r.cycle = .opened
  · obtain ⟨p, hp, hpd, hpa⟩ := State.judgeClose_sensed hshut
    obtain ⟨hq, hl, hn, hre⟩ := State.doorClosed_opened hr hc hp
    have hclear : ∀ hst : r.state = .retired ∨ r.state = .fault, r.trayPresent = false → p = r.shut.toVacant ∧
        (s.doorClosed i).line = s.line.pushNotice ⟨i, .cleared, .none, r.orderNumber, false⟩ := fun hst ht => by
      rw [(s.doorShut i).judgeClose_cleared i (r := r.shut) hst ht] at hp hn
      exact ⟨by simpa [hshut] using hp.symm, by simpa using hn⟩
    have hunknown : r.state = .vacant → r.trayPresent = true → p = r.shut.toRetired .unknown ∧
        (s.doorClosed i).line = s.line.pushNotice ⟨i, .retired, .retire .unknown, r.orderNumber, false⟩ :=
        fun hst ht => by
      rw [(s.doorShut i).judgeClose_unknown i (r := r.shut) hst ht] at hp hn
      exact ⟨by simpa [hshut] using hp.symm, by simpa [State.retire_line hshut] using hn⟩
    have hleft : r.state ≠ .loading ∧ r.state ≠ .releasing →
        ((r.state = .retired ∨ r.state = .fault) → r.trayPresent = true) →
        (r.state = .vacant → r.trayPresent = false) → p = r.shut ∧ (s.doorClosed i).line = s.line := fun h1 h2 h3 => by
      rw [(s.doorShut i).judgeClose_left i (r := r.shut) h1 h2 h3] at hp hn
      exact ⟨by simpa [hshut] using hp.symm, by simpa using hn⟩
    refine ⟨_, _, hexec, hq, by simp [Locker.ended, hpd, Locker.shut], by simp [Locker.ended, hpa, Locker.shut], hl,
      hrow.others, hrow.side, fun hst => ?phase,
      fun h => absurd (h ▸ hc) (by simp), fun _ => by simp [Locker.ended], fun _ hst ht => ?_, fun _ hst ht => ?_,
      fun _ hst => ?_, fun _ hst ht => ?_, fun _ hst ht ho => ?_⟩
    case phase =>
      replace hst := hst.resolve_left (by simp [hc])
      have hph : p.ended.phase = if r.cycle = .opened ∧ (r.state = .retired ∨ r.state = .fault) ∧ r.trayPresent = false
          then .raise else r.phase := by
        split
        next hw =>
          obtain ⟨rfl, -⟩ := hclear hw.2.1 hw.2.2
          rfl
        next hw =>
          by_cases hv : r.state = .vacant ∧ r.trayPresent = true
          · obtain ⟨rfl, -⟩ := hunknown hv.1 hv.2
            rfl
          · obtain ⟨rfl, -⟩ := hleft hst (by grind) (by grind)
            rfl
      rw [← hph]
      exact hre _ rfl
    · obtain ⟨rfl, hn⟩ := hclear hst ht
      exact ⟨rfl, rfl, rfl, rfl, rfl, rfl, hn⟩
    · obtain ⟨rfl, hn⟩ := hleft (by grind) (fun _ => ht) (by grind)
      exact ⟨by simp [Locker.ended, Locker.shut], by simp [Locker.ended, Locker.shut], by simp [Locker.ended, Locker.shut],
        by simp [Locker.ended, Locker.shut], hn⟩
    · obtain ⟨rfl, hn⟩ := hleft (by grind) (by grind) (by grind)
      exact ⟨by simpa [Locker.ended, Locker.shut] using hst, hn⟩
    · obtain ⟨rfl, hn⟩ := hleft (by grind) (by grind) (fun _ => ht)
      exact ⟨by simpa [Locker.ended, Locker.shut] using hst, hn⟩
    · obtain ⟨rfl, hn⟩ := hunknown hst ht
      exact ⟨rfl, rfl, by simpa [Locker.ended, Locker.shut, Locker.toRetired] using ho,
        by simpa [Locker.orderNumber, ho] using hn⟩
  · have htake : (s.doorShut i).takeClose i = s.doorShut i := by
      rcases State.takeClose_cases hshut with ⟨-, ho⟩ | ⟨ho, -⟩
      · exact ho
      · exact absurd ho hc
    have hself := State.recompute_locker?_self hshut
    have hre := State.recomputed_recompute hshut
    have ht : s.doorClosed i = (s.doorShut i).recompute i := by rw [State.doorClosed, htake]
    rw [ht] at hrow hexec
    exact ⟨_, _, hexec, hself, by simp [Locker.shut], by simp [Locker.shut], by simp, hrow.others, hrow.side,
      fun _ => by simpa [hc, Locker.shut] using hre, fun hn => ⟨by simpa [Locker.shut] using hn, by simp [Locker.shut],
        by simp [Locker.shut], by simp⟩, fun h => absurd h hc, fun h => absurd h hc, fun h => absurd h hc,
      fun h => absurd h hc, fun h => absurd h hc, fun h => absurd h hc⟩

end Sys2Proof.Machine
end

section
/-! PROOFS. Trays, door timers and pulses (O30 to O32). -/

namespace Sys2Proof.Machine

/-! ### Trays (R24) -/

/-- R24: a record with the held tray updated. -/
def Locker.withTray (r : Locker) (present : Bool) : Locker := { r with trayPresent := present, traySettle := none }

/-- R24: the state in which a tray change is judged. -/
def State.trayRead (s : State) (i : Nat) (present : Bool) : State :=
  (s.modPins i fun p => { p with trayPresent := present }).modLocker i fun r => r.withTray present

@[simp] theorem State.trayRead_frame (s : State) (i : Nat) (present : Bool) :
    (s.trayRead i present).latch = s.latch ∧ (s.trayRead i present).line = s.line ∧
    (s.trayRead i present).grant = s.grant := by simp [State.trayRead]

theorem State.trayRead_locker? {s : State} {i : Nat} {r : Locker} (h : s.locker? i = some r) (present : Bool) :
    (s.trayRead i present).locker? i = some (r.withTray present) := by simp [State.trayRead, h]

theorem State.oneRow_trayRead (s : State) (i : Nat) (present : Bool) : s.OneRow i (s.trayRead i present) :=
  (s.oneRow_modPins i _).trans (State.oneRow_modLocker ..)

theorem trayFaults_iff (x : LockerState) (present : Bool) :
    trayFaults x present = true ↔ x = .vacant ∨ x = .reserved ∨ (x = .holding ∧ present = false) := by
  cases x <;> simp [trayFaults]

/-- R24: a tray change strikes a record behind a closed door with no cycle, or updates the held tray alone. -/
theorem State.trayChange_eq {s : State} {i : Nat} {r : Locker} {present : Bool} (h : s.locker? i = some r)
    (hs : r.swept = true) (ht : r.trayPresent = !present) : s.trayChange i present =
      if r.doorOpen = false ∧ r.cycle = .none ∧
          (r.state = .vacant ∨ r.state = .reserved ∨ (r.state = .holding ∧ present = false)) then
        ((s.trayRead i present).strike i .tray).recompute i
      else s.trayRead i present := by
  simp only [State.trayChange, h, hs, ht, and_self, if_true, trayFaults_iff]
  rfl

theorem exec_trayChange (i : Nat) (present : Bool) (s : State) :
    exec (if present then .trayAppeared i else .trayRemoved i) s = .next (s.trayChange i present) := by
  cases present <;> rfl

/-- Settles O30: the strike and the bare update are the two branches of a tray change. -/
theorem trayChangeBehindClosedDoorFaults : Obligations.TrayChangeBehindClosedDoorFaults := by
  intro i present s r hr hs ht
  have hread := State.trayRead_locker? hr present
  have heq := State.trayChange_eq hr hs ht
  have hexec := exec_trayChange i present s
  by_cases hw : r.doorOpen = false ∧ r.cycle = .none ∧
      (r.state = .vacant ∨ r.state = .reserved ∨ (r.state = .holding ∧ present = false))
  · rw [heq, if_pos hw] at hexec
    have hrow := ((s.oneRow_trayRead i present).trans (State.oneRow_strike _ _ .tray)).trans (State.oneRow_recompute ..)
    have hstruck : ((s.trayRead i present).strike i .tray).locker? i = some ((r.withTray present).toFault .tray) := by
      simp [hread]
    have hnew : (r.withTray present).state ≠ .fault := by
      have : r.state ≠ .fault := by grind
      exact this
    have hline : ((s.trayRead i present).strike i .tray).line =
        s.line.pushNotice ⟨i, .fault, .fault .tray, r.orderNumber, false⟩ := by
      rw [State.strike_line hread, if_neg (by simp [hnew])]
      simp [Locker.orderNumber, Locker.withTray]
    have hself := State.recompute_locker?_self hstruck
    have hlist := (State.recomputed_recompute hstruck _ hself).2
    rw [Locker.recomputed_cold (by simp [LockerState.heats])] at hself hlist
    refine ⟨_, _, hexec, hself, ?_, ?_, ?_, ?_, ?_, ?_, hrow.others, hrow.side,
      fun _ _ _ => ⟨by simp, by simp, (Locker.toFault_new hnew .tray).1, (Locker.toFault_new hnew .tray).2, rfl,
        hlist rfl, ?_⟩, fun h => ?other⟩
    case other => grind
    all_goals simp [Locker.withTray, hline]
  · rw [heq, if_neg hw] at hexec
    have hrow := s.oneRow_trayRead i present
    exact ⟨_, _, hexec, hread, rfl, rfl, rfl, rfl, rfl, by simp, hrow.others, hrow.side,
      fun h1 h2 h3 => absurd ⟨h1, h2, h3⟩ hw, fun _ => ⟨rfl, by simp, by simp⟩⟩

/-! ### The latch driver as it is served (R163, R165) -/

/-- R165: the latch driver after it has taken its head, or could not. -/
def Latch.served (l : Latch) (supplyLow : Bool) : Latch :=
  match l.pulse, l.queue with
  | none, h :: rest => if supplyLow then ⟨h :: rest, none⟩ else ⟨rest, some ⟨h, 0⟩⟩
  | p, queue => ⟨queue, p⟩

theorem State.takeLatch_latch (s : State) : s.takeLatch.latch = s.latch.served s.time.supplyLow := by
  rcases hl : s.latch with ⟨_ | ⟨h, rest⟩, _ | p⟩
  case cons.none => by_cases hs : s.time.supplyLow = true <;> simp [State.takeLatch, Latch.served, hl, hs]
  all_goals simp [State.takeLatch, Latch.served, hl]

/-- R163: a request joins the tail of the queue, or merges. -/
theorem Latch.requested_eq (l : Latch) (i : Nat) (supplyLow : Bool) : l.requested i supplyLow =
    Latch.served { l with queue := if i ∈ l.queue then l.queue else l.queue ++ [i] } supplyLow := rfl

/-- R163, R165: the latch driver after a release request. -/
theorem State.requestLatch_latch (s : State) (i : Nat) :
    (s.requestLatch i).latch = s.latch.requested i s.time.supplyLow := by
  rw [State.requestLatch_eq, State.takeLatch_latch, Latch.requested_eq]
  by_cases hi : i ∈ s.latch.queue <;> simp [hi]

/-- R11, R165: the QUEUED record whose index becomes the pulse is PULSING, and every other record stands. -/
theorem State.takeLatch_record (s : State) (j : Nat) : s.takeLatch.locker? j = (s.locker? j).map fun r =>
    if (s.latch.pulse = none ∧ s.takeLatch.latch.pulse = some ⟨j, 0⟩) ∧ r.cycle = .queued then
      { r with cycle := .pulsing } else r := by
  rcases s.takeLatch_cases with ⟨he, -⟩ | ⟨i, rest, hp, -, -, he⟩
  · rw [he]
    have hn : ¬ (s.latch.pulse = none ∧ s.latch.pulse = some ⟨j, 0⟩) := fun h => by simp [h.1] at h
    simp [hn]
  · have hl : s.takeLatch.latch.pulse = some ⟨i, 0⟩ := by simp [he]
    rw [hl]
    by_cases hj : j = i
    · subst hj
      simp [he, hp]
    · simp [he, hj, Ne.symm hj]

theorem State.requestLatch_record (s : State) (i j : Nat) : (s.requestLatch i).locker? j = (s.locker? j).map fun r =>
    if (s.latch.pulse = none ∧ (s.requestLatch i).latch.pulse = some ⟨j, 0⟩) ∧ r.cycle = .queued then
      { r with cycle := .pulsing } else r := by
  rw [State.requestLatch_eq]
  split <;> exact State.takeLatch_record _ j

/-- R163, R165: a request serves one QUEUED record at the most, and the others stand. -/
theorem State.requestLatch_other (s : State) (i : Nat) {j : Nat} {x : Locker} (h : s.locker? j = some x) :
    (s.requestLatch i).locker? j = some x ∨ (x.cycle = .queued ∧ (s.requestLatch i).latchSelect j = true ∧
      (s.requestLatch i).locker? j = some { x with cycle := .pulsing }) := by
  rw [State.requestLatch_record, h, State.latchSelect_iff]
  by_cases hw : (s.latch.pulse = none ∧ (s.requestLatch i).latch.pulse = some ⟨j, 0⟩) ∧ x.cycle = .queued
  · exact .inr ⟨hw.2, ⟨_, hw.1.2, rfl⟩, by simp [hw]⟩
  · exact .inl (by simp only [Option.map_some, if_neg hw])

/-- R12: a record whose open wait is retried. -/
def Locker.retried (r : Locker) : Locker := { r with attempts := 1, cycle := .queued, openWait := none }

/-- R12: a record whose open wait has ended its cycle. -/
def Locker.unopened (r : Locker) : Locker := { r with attempts := 0, cycle := .none, openWait := none }

/-- R12: a first open wait that expires hands a new request. -/
theorem execOpenWaitExpired_retry {s : State} {i : Nat} {r : Locker} (h : s.locker? i = some r)
    (hc : r.cycle = .awaitOpen) (ha : r.attempts = 0) :
    execOpenWaitExpired i s = .next ((s.modLocker i Locker.retried).requestLatch i) := by
  simp only [execOpenWaitExpired, h, hc, ha, if_true]
  rfl

/-- R12: a second open wait that expires is a fault. -/
theorem execOpenWaitExpired_fault {s : State} {i : Nat} {r : Locker} (h : s.locker? i = some r)
    (hc : r.cycle = .awaitOpen) (ha : r.attempts ≠ 0) :
    execOpenWaitExpired i s = .next (((s.modLocker i Locker.unopened).strike i .latch).recompute i) := by
  simp only [execOpenWaitExpired, h, hc, ha, if_true, if_false]
  rfl

/-- Settles O31: a running timer is answered once, and an open wait is retried once before it faults. -/
theorem doorTimersExpire : Obligations.DoorTimersExpire := by
  refine ⟨fun i s r hr ha hg => ?_, fun i s r hr hc => ?_⟩
  · have hexec : execAjar i s = .next ((s.modLocker i fun r => { r with ajar := none, ajarGiven := true }).notify i
        .ajar .none r.orderNumber) := by simp [execAjar, hr, ha, hg]
    have hrow := (s.oneRow_modLocker i fun r => { r with ajar := none, ajarGiven := true }).trans
      (State.oneRow_notify _ i .ajar .none r.orderNumber)
    exact ⟨_, hexec, by simp [hr], by simp, by simp, by simp, hrow.others, hrow.side⟩
  by_cases ha : r.attempts = 0
  · have hrec := State.requestLatch_record (s.modLocker i Locker.retried) i i
    simp only [State.modLocker_locker?, if_true, hr, Option.map_some] at hrec
    have hwon : ((s.modLocker i Locker.retried).latch.pulse = none ∧
        ((s.modLocker i Locker.retried).requestLatch i).latch.pulse = some ⟨i, 0⟩) ∧ r.retried.cycle = .queued ↔
        ((s.modLocker i Locker.retried).requestLatch i).latch.pulse = some ⟨i, 0⟩ ∧ s.latch.pulse = none := by
      simp [Locker.retried, and_comm]
    simp only [hwon] at hrec
    refine ⟨_, _, execOpenWaitExpired_retry hr hc ha, hrec, ?_, ?_, fun _ => ⟨?_, ?_, by simp, by simp,
      by simpa using State.requestLatch_latch (s.modLocker i Locker.retried) i, ?_, fun j x hj hx => ?other⟩,
      fun h => absurd ha h, by simp [State.lockerSideOnly_iff]⟩
    case other => exact State.requestLatch_other _ i (by simp [hj, hx])
    all_goals split <;> simp [Locker.retried]
  · have hrow := ((s.oneRow_modLocker i Locker.unopened).trans (State.oneRow_strike _ _ .latch)).trans
      (State.oneRow_recompute ..)
    have hmid : (s.modLocker i Locker.unopened).locker? i = some r.unopened := by simp [hr]
    have hstruck : ((s.modLocker i Locker.unopened).strike i .latch).locker? i = some (r.unopened.toFault .latch) := by
      simp [hr]
    have hself := State.recompute_locker?_self hstruck
    have hlist := (State.recomputed_recompute hstruck _ hself).2
    rw [Locker.recomputed_cold (by simp [LockerState.heats])] at hself hlist
    refine ⟨_, _, execOpenWaitExpired_fault hr hc ha, hself, ?_, ?_, fun h => absurd h ha,
      fun _ => ⟨?_, ?_, ?_, ?_, rfl, hlist rfl, ?_, hrow.others, ?line⟩, hrow.side⟩
    case line =>
      have hline := State.strike_line hmid .latch
      simpa [Locker.unopened, Locker.orderNumber] using hline
    all_goals simp [Locker.unopened]

/-- R165: what it is for a head to be taken for a pulse. -/
theorem Latch.served_pulse_iff {l : Latch} (hp : l.pulse = none) (supplyLow : Bool) (j : Nat) :
    (l.served supplyLow).pulse = some ⟨j, 0⟩ ↔ supplyLow = false ∧ l.queue.head? = some j := by
  rcases l with ⟨_ | ⟨h, rest⟩, p⟩ <;> cases supplyLow <;> simp_all [Latch.served]

/-- Settles O32: the pulse is over for its record, and the head is taken from there. -/
theorem pulseEndServesNextHead : Obligations.PulseEndServesNextHead := by
  intro s p hp
  have hexec : execPulseEnded s =
      .next ((s.withLatch { s.latch with pulse := none }).modLocker p.locker Locker.pulseEnd).takeLatch := by
    simp [execPulseEnded, hp]
  have hlatch := State.takeLatch_latch ((s.withLatch { s.latch with pulse := none }).modLocker p.locker Locker.pulseEnd)
  simp only [State.modLocker_frame, State.withLatch_latch, State.withLatch_time] at hlatch
  refine ⟨_, hexec, ?_, fun j r hr => ?_, by simp, by simp⟩
  · rw [hlatch, Latch.served]
    cases s.latch.queue <;> rfl
  · have hrec := State.takeLatch_record ((s.withLatch { s.latch with pulse := none }).modLocker p.locker Locker.pulseEnd) j
    simp only [hlatch, Latch.served_pulse_iff (l := ⟨s.latch.queue, none⟩) rfl, State.modLocker_frame,
      State.withLatch_latch, true_and, State.modLocker_locker?, State.withLatch_locker?, hr] at hrec
    by_cases hj : j = p.locker ∧ r.cycle = .pulsing
    · have hend : r.pulseEnd = { r with cycle := .awaitOpen, openWait := some 0 } := by simp [Locker.pulseEnd, hj.2]
      refine ⟨{ r with cycle := .awaitOpen, openWait := some 0 }, by simpa [hj.1, hend] using hrec, rfl, ?_⟩
      rw [if_pos hj]
      exact ⟨rfl, rfl⟩
    · have hstay : (if j = p.locker then (some r).map Locker.pulseEnd else some r) = some r := by
        split
        next hl =>
          have hn : r.cycle ≠ .pulsing := fun h => hj ⟨hl, h⟩
          simp [Locker.pulseEnd, hn]
        next => rfl
      rw [hstay, Option.map_some] at hrec
      by_cases hw : (s.time.supplyLow = false ∧ s.latch.queue.head? = some j) ∧ r.cycle = .queued
      · refine ⟨_, hrec.trans (congrArg some (if_pos hw)), rfl, ?_⟩
        rw [if_neg hj]
        exact ⟨rfl, (if_pos (and_assoc.mp hw)).symm⟩
      · refine ⟨_, hrec.trans (congrArg some (if_neg hw)), rfl, ?_⟩
        rw [if_neg hj]
        exact ⟨rfl, (if_neg fun h => hw (and_assoc.mpr h)).symm⟩

end Sys2Proof.Machine
end

section
/-! PROOFS. Probe samples and first readings (O22, O23). -/

namespace Sys2Proof.Machine

theorem State.oneRow_sample (s : State) (i raw : Nat) : s.OneRow i (s.sample i raw) :=
  ((s.oneRow_modLocker i _).trans (State.oneRow_takeResult ..)).trans (State.oneRow_recompute ..)

/-- R31, R32: a sample moves S, the seeded flag and the fault run alone. -/
@[simp] theorem Locker.sampled_fields (r : Locker) (raw : Nat) :
    (r.sampled raw).state = r.state ∧ (r.sampled raw).order = r.order ∧ (r.sampled raw).cycle = r.cycle ∧
    (r.sampled raw).attempts = r.attempts ∧ (r.sampled raw).ready = r.ready ∧ (r.sampled raw).phase = r.phase ∧
    (r.sampled raw).retireReason = r.retireReason ∧ (r.sampled raw).voidPending = r.voidPending := by
  unfold Locker.sampled
  split <;> simp

@[simp] theorem Locker.sampled_orderNumber (r : Locker) (raw : Nat) : (r.sampled raw).orderNumber = r.orderNumber := by
  simp [Locker.orderNumber]

@[simp] theorem Locker.sampled_figures (r : Locker) (raw : Nat) (classes : List (Option ClassEntry)) :
    (r.sampled raw).figures classes = r.figures classes := by simp [Locker.figures]

/-- R32: the fault run stands at its limit after a fault sample that follows two, and at no other. -/
theorem Locker.sampled_faultRun_eq (r : Locker) (raw : Nat) :
    (r.sampled raw).faultRun = 3 ↔ (raw = 0 ∨ raw = 255) ∧ 2 ≤ r.faultRun := by
  by_cases h : raw = 0 ∨ raw = 255
  · have hrun : (r.sampled raw).faultRun = min 3 (r.faultRun + 1) := by rw [Locker.sampled, if_pos h]
    rw [hrun]
    simp only [h, true_and]
    omega
  · simp [Locker.sampled, h]

/-- R29: the state in which a sample is delivered. -/
def State.probeRead (s : State) (i raw : Nat) : State :=
  (s.modPins i fun p => { p with probe := raw }).modLocker i fun r => r.sampled raw

@[simp] theorem State.probeRead_frame (s : State) (i raw : Nat) :
    (s.probeRead i raw).latch = s.latch ∧ (s.probeRead i raw).line = s.line ∧
    (s.probeRead i raw).time = s.time ∧ (s.probeRead i raw).straps = s.straps := by simp [State.probeRead]

theorem State.probeRead_locker? {s : State} {i : Nat} {r : Locker} (h : s.locker? i = some r) (raw : Nat) :
    (s.probeRead i raw).locker? i = some (r.sampled raw) := by simp [State.probeRead, h]

theorem execProbeSample_eq {s : State} {i raw : Nat} {r : Locker} (h : s.locker? i = some r) (hs : r.swept = true) :
    execProbeSample i raw s = .next (((s.probeRead i raw).takeResult i).recompute i) := by
  simp only [execProbeSample, h, hs, if_true]
  rfl

/-- R15, R33: what a probe fault makes of a sampled record. -/
theorem State.probeFault_struck {s : State} {i : Nat} {r : Locker} (h : s.locker? i = some r)
    (hf : r.state ≠ .fault) : ∃ p, (s.probeFault i).locker? i = some p ∧ p.state = .fault ∧
      p.faultReason = some .probe ∧ p.retireReason = none ∧ p.voidPending = false ∧ p.order = r.order ∧
      p.phase = r.phase ∧
      (s.probeFault i).line = s.line.pushNotice ⟨i, .fault, .fault .probe, r.orderNumber, false⟩ ∧
      (if (r.state = .loading ∨ r.state = .releasing) ∧ r.cycle = .queued then
        p.cycle = .none ∧ p.attempts = 0 ∧ (s.probeFault i).latch = ⟨s.latch.queue.filter (· != i), s.latch.pulse⟩
       else p.cycle = r.cycle ∧ p.attempts = r.attempts ∧ (s.probeFault i).latch = s.latch) := by
  rcases State.probeFault_cases h with ⟨hq, hp⟩ | ⟨hq, hp⟩ <;> rw [hp]
  · have hmid : ((s.withdrawLatch i).modLocker i Locker.ended).locker? i = some r.ended := by simp [h]
    have hline := State.strike_line hmid .probe
    rw [if_neg (by simp [Locker.ended, hf])] at hline
    refine ⟨r.ended.toFault .probe, by simp [h], by simp, by simp, (Locker.toFault_new (r := r.ended) hf _).1,
      (Locker.toFault_new (r := r.ended) hf _).2, by simp [Locker.ended], by simp [Locker.ended], ?_, ?_⟩
    · simpa [Locker.ended, Locker.orderNumber] using hline
    · rw [if_pos hq]
      simp [Locker.ended]
  · have hline := State.strike_line h .probe
    rw [if_neg (by simp [hf])] at hline
    refine ⟨r.toFault .probe, by simp [h], by simp, by simp, (Locker.toFault_new hf _).1,
      (Locker.toFault_new hf _).2, by simp, by simp, hline, ?_⟩
    rw [if_neg hq]
    simp

/-- Settles O22: the third fault sample strikes the record, and any other is judged for readiness. -/
theorem probeSampleFaultsOrReadies : Obligations.ProbeSampleFaultsOrReadies := by
  intro i raw s r hr hs
  have hread := State.probeRead_locker? hr raw
  have hthird : (r.sampled raw).faultRun = 3 ∧ (r.sampled raw).state ≠ .blocked ∧ (r.sampled raw).state ≠ .fault ↔
      (raw = 0 ∨ raw = 255) ∧ 2 ≤ r.faultRun ∧ r.state ≠ .blocked ∧ r.state ≠ .fault := by
    simp only [Locker.sampled_faultRun_eq, Locker.sampled_fields, and_assoc]
  rcases State.takeResult_cases hread with ⟨hw, ht⟩ | ⟨hw, ht⟩
  · obtain ⟨p, hp, hst, hwhy, hret, hvoid, hord, hph, hline, hlatch⟩ := State.probeFault_struck hread hw.2.2
    have hself := State.recompute_locker?_self hp
    have hre := State.recomputed_recompute hp
    have hlist := (hre _ hself).2
    rw [Locker.recomputed_cold (by simp [hst, LockerState.heats])] at hself hlist
    have hexec := execProbeSample_eq (raw := raw) hr hs
    rw [ht] at hexec
    refine ⟨_, _, hexec, hself, fun _ => ⟨hst, hwhy, hret, hvoid, by simpa using hord, rfl, hlist rfl, ?_, ?_⟩,
      fun h => absurd (hthird.mp hw) h, ?_⟩
    · simpa using hline
    · simpa using hlatch
    · simpa [hph] using hre
  · have hexec := execProbeSample_eq (raw := raw) hr hs
    rw [ht] at hexec
    rw [hthird] at hw
    rcases State.judgeReady_cases hread with ⟨hy, hj⟩ | ⟨hy, hj⟩
    · rw [hj] at hexec
      have hp : (((s.probeRead i raw).modLocker i fun r => { r with ready := true }).notify i .ready .none
        (r.sampled raw).orderNumber).locker? i = some { r.sampled raw with ready := true } := by simp [hread]
      have hself := State.recompute_locker?_self hp
      have hre := State.recomputed_recompute hp
      refine ⟨_, _, hexec, hself, fun h => absurd h hw, fun _ => ⟨by simp, by simp, by simp,
        fun _ => ⟨by simp, by simp⟩, fun h => absurd ?_ h⟩, by simpa using hre⟩
      simpa using hy
    · rw [hj] at hexec
      have hself := State.recompute_locker?_self hread
      have hre := State.recomputed_recompute hread
      refine ⟨_, _, hexec, hself, fun h => absurd h hw, fun _ => ⟨by simp, by simp, by simp,
        fun h => absurd ?_ hy, fun _ => ⟨by simp, by simp⟩⟩, by simpa using hre⟩
      simpa using h

/-! ### First readings (R27, R172) -/

/-- R172: the state once a first reading has set the record, before its sample. -/
def State.firstRead (s : State) (i : Nat) (door tray : Bool) (raw : Nat) : State :=
  if tray then ((s.modPins i fun _ => ⟨door, tray, raw⟩).modLocker i fun r => r.firstRead door tray).retire i .unknown
  else (s.modPins i fun _ => ⟨door, tray, raw⟩).modLocker i fun r => r.firstRead door tray

theorem execFirstSweepReading_eq {s : State} {i : Nat} {r : Locker} (h : s.locker? i = some r) (hs : r.swept = false)
    (door tray : Bool) (raw : Nat) :
    execFirstSweepReading i door tray raw s = .next ((s.firstRead i door tray raw).sample i raw) := by
  simp only [execFirstSweepReading, h, hs, Bool.false_eq_true, if_false]
  rfl

theorem State.oneRow_firstRead (s : State) (i : Nat) (door tray : Bool) (raw : Nat) :
    s.OneRow i (s.firstRead i door tray raw) := by
  have hread := (s.oneRow_modPins i fun _ => ⟨door, tray, raw⟩).trans
    (State.oneRow_modLocker _ i fun r => r.firstRead door tray)
  unfold State.firstRead
  split
  · exact hread.trans (State.oneRow_retire ..)
  · exact hread

/-- R27, R172: the record that a first reading makes of a fresh one. -/
def Locker.firstOf (door tray : Bool) : Locker :=
  { Locker.init with
    swept := true, doorOpen := door, trayPresent := tray, state := if tray then .retired else .vacant,
    retireReason := if tray then some .unknown else none, cycle := if door then .opened else .none,
    ajar := if door then some 0 else none }

theorem State.firstRead_locker? {s : State} {i : Nat} (h : s.locker? i = some Locker.init) (door tray : Bool)
    (raw : Nat) : (s.firstRead i door tray raw).locker? i = some (Locker.firstOf door tray) := by
  cases tray <;> cases door <;>
    simp [State.firstRead, h, Locker.firstRead, Locker.firstOf, Locker.toRetired, Locker.init]

theorem State.firstRead_line {s : State} {i : Nat} (h : s.locker? i = some Locker.init) (door tray : Bool) (raw : Nat) :
    (s.firstRead i door tray raw).line =
      if tray then s.line.pushNotice ⟨i, .retired, .retire .unknown, 0, false⟩ else s.line := by
  cases tray
  · simp [State.firstRead]
  · have hread : ((s.modPins i fun _ => ⟨door, true, raw⟩).modLocker i fun r => r.firstRead door true).locker? i =
        some (Locker.init.firstRead door true) := by simp [h]
    have hnum : (Locker.init.firstRead door true).orderNumber = 0 := by cases door <;> rfl
    simpa [State.firstRead, hnum] using State.retire_line hread .unknown

/-- Settles O23: the reading sets the record, and its one sample neither strikes it nor makes it ready. -/
theorem firstSweepReadingSetsRecord : Obligations.FirstSweepReadingSetsRecord := by
  intro i raw door tray s hr
  have hexec := execFirstSweepReading_eq hr rfl door tray raw
  have hrow := (s.oneRow_firstRead i door tray raw).trans (State.oneRow_sample _ i raw)
  have hfirst := State.firstRead_locker? hr door tray raw
  have hsampled : ((s.firstRead i door tray raw).modLocker i fun r => r.sampled raw).locker? i =
      some ((Locker.firstOf door tray).sampled raw) := by simp [hfirst]
  have htake : ((s.firstRead i door tray raw).modLocker i fun r => r.sampled raw).takeResult i =
      (s.firstRead i door tray raw).modLocker i fun r => r.sampled raw := by
    rcases State.takeResult_cases hsampled with ⟨⟨hrun, -⟩, -⟩ | ⟨-, ht⟩
    · have hrun := (Locker.sampled_faultRun_eq ..).mp hrun
      simp [Locker.firstOf, Locker.init] at hrun
    · rcases State.judgeReady_cases hsampled with ⟨⟨hw, -⟩, -⟩ | ⟨-, hj⟩
      · cases tray <;> simp [Locker.firstOf] at hw
      · rw [ht, hj]
  have ht : (s.firstRead i door tray raw).sample i raw =
    ((s.firstRead i door tray raw).modLocker i fun r => r.sampled raw).recompute i := by rw [State.sample, htake]
  have hself := State.recompute_locker?_self hsampled
  have hlist := (State.recomputed_recompute hsampled _ hself).2
  rw [Locker.recomputed_cold (by cases tray <;> simp [Locker.firstOf, LockerState.heats])] at hself hlist
  rw [ht] at hexec hrow
  refine ⟨_, hexec, ?_, ?_, ?_, hlist rfl, hrow.others, hrow.side⟩
  · rw [hself]
    by_cases hf : raw = 0 ∨ raw = 255
    · rcases hf with rfl | rfl <;> rfl
    · have hf' : ¬ raw = 0 ∧ ¬ raw = 255 := not_or.mp hf
      simp only [Locker.sampled, hf, if_false]
      simp [hf', Locker.firstOf, Locker.init]
  · simp [State.firstRead_line hr]
  · cases tray <;> simp [State.firstRead]

end Sys2Proof.Machine
end

section
/-! PROOFS. The records and notices of a warm restart (O6). -/

namespace Sys2Proof.Machine

/-- R133: the notices that are queued depend on the notice list and on the attempt on the wire alone. -/
theorem Line.foldl_pushNotice_notices (fs : List NoticeFrame) {l m : Line} (hn : l.notices = m.notices)
    (hw : l.wire = m.wire) : (fs.foldl Line.pushNotice l).notices = (fs.foldl Line.pushNotice m).notices := by
  induction fs generalizing l m with
  | nil => exact hn
  | cons f fs ih =>
    have hs : l.sending .notice = m.sending .notice := by unfold Line.sending; rw [hw]
    have hd : l.noticesDropped = m.noticesDropped := by simp only [Line.noticesDropped, hs, hn]
    refine ih ?_ (by simpa using hw)
    unfold Line.pushNotice
    rw [hn, hd]
    split <;> rfl

/-- R28: the notice of a record, read off the record that the restart leaves. -/
theorem Locker.revertNotice_eq (r : Locker) (i : Nat) (classes : List (Option ClassEntry)) (clock : Option Nat)
    (commission : Bool) : r.revertNotice classes clock i =
      let q := (r.reverted classes clock).recomputed classes clock commission
      if r.state = .loading ∧ q.state = .vacant then some ⟨i, .cancelled, .none, r.orderNumber, false⟩
      else if r.state = .releasing ∧ q.state = .retired then
        q.retireReason.map fun why => ⟨i, .retired, .retire why, r.orderNumber, false⟩
      else none := by
  simp only [Locker.recomputed_fields]
  by_cases hc : r.cycle = .queued ∨ r.cycle = .pulsing
  · cases hs : r.state
    case loading =>
      cases hv : r.voidPending <;> simp [Locker.revertNotice, Locker.reverted, hc, hs, hv, Locker.toVacant]
    case releasing =>
      cases hv : r.holdVerdict classes clock <;>
        simp [Locker.revertNotice, Locker.reverted, hc, hs, hv, Locker.retiredFor, Locker.toRetired, Locker.retireNotice]
    all_goals simp [Locker.revertNotice, hc, hs]
  · simp only [Locker.revertNotice, Locker.reverted, if_neg hc]
    cases hs : r.state <;> simp

/-- R28: a record with no request and no pulse is kept. -/
theorem Locker.reverted_kept {r : Locker} (h : ¬ (r.cycle = .queued ∨ r.cycle = .pulsing))
    (classes : List (Option ClassEntry)) (clock : Option Nat) : r.reverted classes clock = r := by
  rw [Locker.reverted, if_neg h]

/-- R28: the fields that every reversion keeps. -/
theorem Locker.reverted_fields (r : Locker) (classes : List (Option ClassEntry)) (clock : Option Nat) :
    (r.reverted classes clock).swept = r.swept ∧ (r.reverted classes clock).doorOpen = r.doorOpen ∧
    (r.reverted classes clock).trayPresent = r.trayPresent ∧ (r.reverted classes clock).temp = r.temp ∧
    (r.reverted classes clock).faultRun = r.faultRun ∧ (r.reverted classes clock).openWait = r.openWait ∧
    (r.reverted classes clock).ajar = r.ajar := by
  unfold Locker.reverted
  split
  · split
    · split <;> exact ⟨rfl, rfl, rfl, rfl, rfl, rfl, rfl⟩
    · simp [Locker.ended]
    · exact ⟨rfl, rfl, rfl, rfl, rfl, rfl, rfl⟩
  · exact ⟨rfl, rfl, rfl, rfl, rfl, rfl, rfl⟩

section
variable {r : Locker} (hc : r.cycle = .queued ∨ r.cycle = .pulsing) (classes : List (Option ClassEntry))
  (clock : Option Nat)
include hc

/-- R28: a request or pulse is lost. -/
theorem Locker.reverted_ended : (r.reverted classes clock).cycle = .none ∧ (r.reverted classes clock).attempts = 0 := by
  rw [Locker.reverted, if_pos hc]
  split
  · split <;> exact ⟨rfl, rfl⟩
  · simp [Locker.ended]
  · exact ⟨rfl, rfl⟩

theorem Locker.reverted_loading (hs : r.state = .loading) (hv : r.voidPending = false) : r.reverted classes clock =
    { r.ended with state := .reserved, phase := .raise } := by
  rw [Locker.reverted, if_pos hc, hs]
  simp [hv]

theorem Locker.reverted_cancelled (hs : r.state = .loading) (hv : r.voidPending = true) :
    r.reverted classes clock = r.ended.toVacant := by
  rw [Locker.reverted, if_pos hc, hs]
  simp [hv]

theorem Locker.reverted_releasing (hs : r.state = .releasing) : r.reverted classes clock =
    ({ r.ended with state := .holding } : Locker).retiredFor (r.holdVerdict classes clock) := by
  rw [Locker.reverted, if_pos hc, hs]

theorem Locker.reverted_other (hs : r.state ≠ .loading) (hs' : r.state ≠ .releasing) :
    r.reverted classes clock = r.ended := by
  rw [Locker.reverted, if_pos hc]
  cases h : r.state <;> simp_all

end

/-- R7, R28: a record that returns from RELEASING, written with the state, the reasons and void pending that it gets. -/
theorem Locker.retiredFor_with (r : Locker) (why : Option RetireReason) :
    r.retiredFor why = { r with
      state := (r.retiredFor why).state, retireReason := (r.retiredFor why).retireReason,
      faultReason := (r.retiredFor why).faultReason, voidPending := (r.retiredFor why).voidPending } := by
  cases why <;> rfl

/-- Settles O6: by the state of a record whose door cycle is QUEUED or PULSING, and with the notices in index order. -/
theorem warmRestartRevertsRecords : Obligations.WarmRestartRevertsRecords := by
  refine ⟨fun s => ⟨s.warmRestart, rfl, ?_⟩, fun i s r hr => ?_⟩
  · rw [State.warmRestart_line]
    have hlist : (s.indices.filterMap fun i => (s.locker? i).bind (Locker.revertNotice s.time.classes s.time.clock i)) =
        s.indices.filterMap fun i => match s.locker? i, s.warmRestart.locker? i with
          | some r, some q =>
            if r.state = .loading ∧ q.state = .vacant then some (⟨i, .cancelled, .none, r.orderNumber, false⟩ : NoticeFrame)
            else if r.state = .releasing ∧ q.state = .retired then
              q.retireReason.map fun why => ⟨i, .retired, .retire why, r.orderNumber, false⟩
            else none
          | _, _ => none := by
      refine List.filterMap_congr fun i _ => ?_
      rw [State.warmRestart_locker?]
      cases s.locker? i with
      | none => rfl
      | some r => exact r.revertNotice_eq i _ _ s.straps.commission
    rw [hlist]
    exact Line.foldl_pushNotice_notices _ rfl rfl
  · have hq : s.warmRestart.locker? i = some ((r.reverted s.time.classes s.time.clock).recomputed s.time.classes
        s.time.clock s.straps.commission) := by simp [State.warmRestart_locker?, hr]
    have hf := r.reverted_fields s.time.classes s.time.clock
    refine ⟨s.warmRestart, _, rfl, hq, by simp [Grant.restarted], by simp [hf], by simp [hf], by simp [hf], by simp [hf],
      by simp [hf], by simp [hf], by simp [hf], fun hk => ?_, fun hc => ⟨?_, ?_, ?_, ?_, ?_, ?_, ?_⟩⟩
    · simp [Locker.reverted_kept hk]
    · simp [Locker.reverted_ended hc]
    · simp [Locker.reverted_ended hc]
    · intro hs hv
      rw [Locker.reverted_loading hc _ _ hs hv]
      exact ⟨by simp, by simp [Locker.ended], rfl⟩
    · intro hs hv
      rw [Locker.reverted_cancelled hc _ _ hs hv, Locker.recomputed_cold rfl]
      exact ⟨rfl, rfl, rfl, rfl⟩
    · intro hs
      have hw := Locker.retiredFor_with { r.ended with state := .holding } (r.holdVerdict s.time.classes s.time.clock)
      rw [← Locker.reverted_releasing hc _ _ hs] at hw
      simp only [Locker.recomputed_fields]
      exact congrArg (Locker.recomputed · s.time.classes s.time.clock s.straps.commission) hw
    · intro o c hs ho hf
      have hverdict := Locker.holdVerdict_some ho hf s.time.clock
      simp only [Locker.recomputed_fields]
      rw [Locker.reverted_releasing hc _ _ hs, hverdict]
      refine ⟨by simp [Locker.ended], ?_⟩
      split
      next h => exact ⟨rfl, rfl⟩
      next h =>
        split
        next h' => exact ⟨rfl, rfl⟩
        next h' => rfl
    · intro hs
      rw [Locker.reverted_other hc _ _ (by grind) (by grind)]
      exact ⟨by simp [Locker.ended], by simp [Locker.ended], rfl⟩

end Sys2Proof.Machine
end

section
/-! PROOFS. Verbs as the processor takes them, and the cycles that they begin. -/

namespace Sys2Proof.Machine

/-! ### Door cycles that begin under the latch law (R10, R163, R165) -/

/-- R165: under the latch law an idle driver that may pulse has an empty queue. -/
theorem State.LatchLaw.idle {s : State} (h : s.LatchLaw) (hp : s.latch.pulse = none) (hs : s.time.supplyLow = false) :
    s.latch.queue = [] := (s.latchLaw_iff.mp h).2 hp hs

/-- R163, R165: an idle driver with an empty queue serves the request that comes; any other driver keeps it waiting. -/
theorem State.requestLatch_idle {s : State} {i : Nat} {r : Locker} (h : s.locker? i = some r) (hq : r.cycle = .queued)
    (hidle : s.latch.pulse = none → s.time.supplyLow = false → s.latch.queue = []) :
    (s.requestLatch i).locker? i = some { r with
      cycle := if s.latch.pulse = none ∧ s.time.supplyLow = false then .pulsing else .queued } ∧
    s.OneRow i (s.requestLatch i) := by
  have hwon : ∀ j, s.latch.pulse = none ∧ (s.requestLatch i).latch.pulse = some ⟨j, 0⟩ ↔
      (s.latch.pulse = none ∧ s.time.supplyLow = false) ∧ j = i := by
    intro j
    rw [State.requestLatch_latch, Latch.requested_eq, and_assoc]
    refine and_congr_right fun hp => ?_
    rw [Latch.served_pulse_iff (by exact hp)]
    refine and_congr_right fun hs => ?_
    simp [hidle hp hs, eq_comm]
  refine ⟨?_, ⟨by simp, fun j hj => ?_⟩, by simp [State.lockerSideOnly_iff]⟩
  · rw [State.requestLatch_record, h]
    simp only [hwon, hq, and_true, Option.map_some]
    split
    · rfl
    · rw [← hq]
  · rw [State.requestLatch_record]
    simp [hwon, hj]

/-- R10: a door cycle that begins behind a closed door. -/
theorem State.beginCycle_closed {s : State} {i : Nat} {r : Locker} (h : s.locker? i = some r) (hd : r.doorOpen = false)
    (hidle : s.latch.pulse = none → s.time.supplyLow = false → s.latch.queue = []) :
    (s.beginCycle i).locker? i = some { r with
      attempts := 0, cycle := if s.latch.pulse = none ∧ s.time.supplyLow = false then .pulsing else .queued } ∧
    (s.beginCycle i).latch = s.latch.requested i s.time.supplyLow ∧ s.OneRow i (s.beginCycle i) := by
  rw [State.beginCycle_eq h, if_neg (by simp [hd])]
  obtain ⟨hl, hrow⟩ := State.requestLatch_idle (s := s.modLocker i fun _ => r.begun) (i := i) (r := r.begun)
    (by simp [h]) (by simp [Locker.begun, hd]) (by simpa using hidle)
  refine ⟨?_, by simp [State.requestLatch_latch], (s.oneRow_modLocker i _).trans hrow⟩
  simpa [Locker.begun] using hl

/-- R10: a door cycle that begins behind an open door. -/
theorem State.beginCycle_open {s : State} {i : Nat} {r : Locker} (h : s.locker? i = some r) (hd : r.doorOpen = true) :
    s.beginCycle i = s.modLocker i fun _ => { r with attempts := 0, cycle := .opened } := by
  rw [State.beginCycle_eq h, if_pos hd]
  simp [Locker.begun, hd]

/-! ### Verbs (R148 to R150) -/

/-- R148, R150: the state once a command has its answer. -/
def State.replied (v : State) (c : CommandFrame) (a : Answer) : State :=
  v.withLine { v.line with replies :=
    if c.dest = 31 ∨ v.line.inStep = false ∨ v.line.listenOnly = true then v.line.replies
    else v.line.replies ++ [⟨⟨c.src, c.verb, a.outcome, a.reason, a.locker, a.state, a.data⟩, 0⟩] }

/-- R130, R143, R150: while the processor is FREE and the list has room, an answer joins the list or is discarded. -/
theorem State.answer_eq {v : State} (hfree : v.cip.proc = .free) (hroom : v.line.replies.length < 4)
    (c : CommandFrame) (a : Answer) : v.answer c a = v.replied c a := by
  have hmute : v.line.mute = true ↔ v.line.inStep = false ∨ v.line.listenOnly = true := by simp [Line.mute]
  unfold State.answer State.replied
  by_cases hd : c.dest = 31
  · simp only [hd, true_or, if_true]
    rfl
  · rcases v.handReply_cases ⟨c.src, c.verb, a.outcome, a.reason, a.locker, a.state, a.data⟩ with
      ⟨hm, -, hh⟩ | ⟨hm, hh⟩
    · have hn : ¬ (v.line.inStep = false ∨ v.line.listenOnly = true) := by rw [← hmute]; simp [hm]
      rw [if_neg hd, hh, if_neg (by simpa [hd] using hn)]
    · have hm : v.line.inStep = false ∨ v.line.listenOnly = true :=
        hmute.mp (hm.resolve_right (by simpa [Config.replyCapacity] using hroom))
      rw [if_neg hd, hh, if_pos (by simpa [hd] using hm)]
      simp only [State.reportReply, hfree, reduceCtorEq, false_and, if_false]
      rfl

/-- R148: what an answer leaves unchanged. -/
@[simp] theorem State.replied_frame (v : State) (c : CommandFrame) (a : Answer) :
    (v.replied c a).straps = v.straps ∧ (v.replied c a).time = v.time ∧ (v.replied c a).lockers = v.lockers ∧
    (v.replied c a).scanAt = v.scanAt ∧ (v.replied c a).latch = v.latch ∧ (v.replied c a).keypad = v.keypad ∧
    (v.replied c a).book = v.book ∧ (v.replied c a).share = v.share ∧ (v.replied c a).grant = v.grant ∧
    (v.replied c a).cip = v.cip ∧ (v.replied c a).lamp = v.lamp ∧ (v.replied c a).pins = v.pins ∧
    (v.replied c a).owed = v.owed ∧ (v.replied c a).ties = v.ties ∧ (v.replied c a).pending = v.pending ∧
    (v.replied c a).count = v.count := ⟨rfl, rfl, rfl, rfl, rfl, rfl, rfl, rfl, rfl, rfl, rfl, rfl, rfl, rfl, rfl, rfl⟩

@[simp] theorem State.replied_locker? (v : State) (c : CommandFrame) (a : Answer) (j : Nat) :
    (v.replied c a).locker? j = v.locker? j := rfl

/-- R149: the state in which the rule of a taken command is applied. -/
def State.taken (s : State) (rest : List CommandFrame) : State := s.withCip { s.cip with inbox := rest }

@[simp] theorem State.taken_frame (s : State) (rest : List CommandFrame) :
    (s.taken rest).straps = s.straps ∧ (s.taken rest).time = s.time ∧ (s.taken rest).lockers = s.lockers ∧
    (s.taken rest).scanAt = s.scanAt ∧ (s.taken rest).latch = s.latch ∧ (s.taken rest).keypad = s.keypad ∧
    (s.taken rest).book = s.book ∧ (s.taken rest).share = s.share ∧ (s.taken rest).grant = s.grant ∧
    (s.taken rest).line = s.line ∧ (s.taken rest).cip = { s.cip with inbox := rest } ∧
    (s.taken rest).lamp = s.lamp ∧ (s.taken rest).pins = s.pins ∧ (s.taken rest).owed = s.owed ∧
    (s.taken rest).ties = s.ties ∧ (s.taken rest).pending = s.pending ∧ (s.taken rest).count = s.count :=
  ⟨rfl, rfl, rfl, rfl, rfl, rfl, rfl, rfl, rfl, rfl, rfl, rfl, rfl, rfl, rfl, rfl, rfl⟩

@[simp] theorem State.taken_locker? (s : State) (rest : List CommandFrame) (j : Nat) :
    (s.taken rest).locker? j = s.locker? j := rfl

/-- R149, R150: a verb that the processor takes outside COMMISSION, by a rule that leaves the processor and the reply
list. -/
theorem State.takeVerb_eq {s v : State} {c : CommandFrame} {rest : List CommandFrame} {a : Answer} (h : s.Takes c rest)
    {verb : Nat} (hv : c.verb = verb) (hcom : s.straps.commission = false)
    {rule : CommandFrame → State → State × Answer} (hrule : rule c (s.taken rest) = (v, a))
    (hcip : v.cip = (s.taken rest).cip) (hrep : v.line.replies = s.line.replies) :
    (.next (s.takeVerb (CommandFrame.isVerb verb) (inService rule)) : Host.Outcome State Fault Refusal) =
      .next (v.replied c a) := by
  obtain ⟨hin, hfree, hroom⟩ := h
  have hcan : s.canTake = true := by simp [State.canTake, hfree, Config.replyCapacity, hroom]
  have hser : inService rule c (s.taken rest) = (v, a) := by simp [inService, hcom, hrule]
  have hv : CommandFrame.isVerb verb c = true := by simp [CommandFrame.isVerb, hv]
  simp only [State.takeVerb, hin, hcan, hv, Bool.and_self, if_true]
  change Host.Outcome.next (((inService rule c (s.taken rest)).1).answer c (inService rule c (s.taken rest)).2) = _
  rw [hser, State.answer_eq (by simp [hcip, hfree]) (by rw [hrep]; exact hroom) c a]

/-- R148, R150: the answer is the one that the command receives. -/
theorem State.answered_replied {s v : State} {c : CommandFrame} {verb : Nat} (hv : c.verb = verb) (a : Answer)
    (hin : v.line.inStep = s.line.inStep) (hlis : v.line.listenOnly = s.line.listenOnly)
    (hrep : v.line.replies = s.line.replies) :
    s.Answered (v.replied c a) c ⟨c.src, verb, a.outcome, a.reason, a.locker, a.state, a.data⟩ := by
  simp [State.Answered, State.replied, hin, hlis, hrep, hv]

/-- What a verb changes beside the inbox and the reply list, where its rule is a row of one locker. -/
theorem State.OneRow.replied {s v : State} {rest : List CommandFrame} {i : Nat} (h : (s.taken rest).OneRow i v)
    (c : CommandFrame) (a : Answer) :
    s.OthersKept (v.replied c a) i ∧ s.LockerSideOnly { v.replied c a with cip := s.cip } := by
  obtain ⟨hstraps, htime, hscan, hkeypad, hbook, hshare, -, hlamp, howed, hties, hpend⟩ :=
    (State.lockerSideOnly_iff ..).mp h.side
  exact ⟨h.others, (State.lockerSideOnly_iff ..).mpr
    ⟨hstraps, htime, hscan, hkeypad, hbook, hshare, rfl, hlamp, howed, hties, hpend⟩⟩

end Sys2Proof.Machine
end

section
/-! PROOFS. LOAD, VOID and the locker verbs (O53, O54, O56). -/

namespace Sys2Proof.Machine

/-- R3: one record holds an order number. -/
theorem State.heldAt_unique {s : State} (h : s.OneHolder) {n i j : Nat} {r q : Locker} {o x : OrderPart}
    (hi : s.HeldAt n i r o) (hj : s.HeldAt n j q x) : j = i ∧ q = r ∧ x = o := by
  have hij : j = i := by simpa [State.holder?_of_heldAt h hi] using (State.holder?_of_heldAt h hj).symm
  subst hij
  obtain rfl : q = r := by simpa [hi.1] using hj.1.symm
  exact ⟨rfl, rfl, by simpa [hi.2.1] using hj.2.1.symm⟩

theorem State.heldAt_of_not_heldNowhere {s : State} {n : Nat} (h : ¬ s.HeldNowhere n) : ∃ i r o, s.HeldAt n i r o := by
  by_contra hno
  exact h fun i r o h1 h2 h3 => hno ⟨i, r, o, h1, h2, h3⟩

/-! ### LOAD (R151) -/

theorem loadRule_unknown {s : State} {c : CommandFrame} (h : s.holder? c.order = none) :
    loadRule c s = (s, .refuse .unknownOrder 0 0) := by simp [loadRule, h]

theorem loadRule_reserved {s : State} {c : CommandFrame} {i : Nat} {r : Locker} (h : s.holder? c.order = some i)
    (hr : s.locker? i = some r) (hs : r.state = .reserved) : loadRule c s =
      (((s.modLocker i fun r => { r with state := .loading }).beginCycle i).recompute i, .accept i 2) := by
  simp [loadRule, h, hr, hs, LockerState.code]

theorem loadRule_loading {s : State} {c : CommandFrame} {i : Nat} {r : Locker} (h : s.holder? c.order = some i)
    (hr : s.locker? i = some r) (hs : r.state = .loading) : loadRule c s = (s, .accept i 2) := by
  simp [loadRule, h, hr, hs, LockerState.code]

theorem loadRule_other {s : State} {c : CommandFrame} {i : Nat} {r : Locker} (h : s.holder? c.order = some i)
    (hr : s.locker? i = some r) (hs : r.state ≠ .reserved) (hs' : r.state ≠ .loading) :
    loadRule c s = (s, .refuse .wrongState i r.state.code) := by
  cases hst : r.state <;> simp_all [loadRule]

/-- Settles O53: an unknown order is refused, and the one record that holds a known order decides. -/
theorem loadOpensReservedLocker : Obligations.LoadOpensReservedLocker := by
  intro s c rest hone hlatch ht hv hcom
  by_cases hn : s.HeldNowhere c.order
  · have hrule := loadRule_unknown (s := s.taken rest) ((State.holder?_eq_none_iff s _).mpr hn)
    have hexec := State.takeVerb_eq ht hv hcom hrule rfl rfl
    exact ⟨_, hexec, rfl, rfl, fun _ => ⟨State.answered_replied hv _ rfl rfl rfl, rfl⟩,
      fun i r o h => absurd h.2.2 (hn i r o h.1 h.2.1)⟩
  · obtain ⟨i, r, o, hh⟩ := State.heldAt_of_not_heldNowhere hn
    have hr : (s.taken rest).locker? i = some r := hh.1
    have hi : (s.taken rest).holder? c.order = some i := State.holder?_of_heldAt hone hh
    by_cases hres : r.state = .reserved
    · have hrule := loadRule_reserved hi hr hres
      have hexec := State.takeVerb_eq ht hv hcom hrule (by simp) (by simp)
      refine ⟨_, hexec, by simp [State.TakenFrom], by simp [State.replied], fun h => absurd h hn, fun j q x hj => ?_⟩
      obtain ⟨rfl, rfl, rfl⟩ := State.heldAt_unique hone hh hj
      refine ⟨fun _ hd => ?_, fun h => by simp [hres] at h, fun h => absurd hres h⟩
      obtain ⟨hl, hq, hrow⟩ := State.beginCycle_closed
        (s := (s.taken rest).modLocker j fun r => { r with state := .loading }) (i := j)
        (r := { q with state := .loading }) (by simp [hr]) hd (by simpa using hlatch.idle)
      have hself := State.recompute_locker?_self hl
      have hoff := Locker.recomputed_cold (r := { q with
        state := .loading, attempts := 0,
        cycle := if s.latch.pulse = none ∧ s.time.supplyLow = false then .pulsing else .queued }) rfl
      refine ⟨State.answered_replied hv _ (by simp) (by simp) (by simp), ?_, ?_, ?_, ⟨?_, fun k hk => ?_⟩, ?_⟩
      · simpa using hq
      · simpa [hoff] using hself
      · simpa using State.recompute_grant_cold hl rfl
      · simp
      · simpa [hk] using hrow.others.2 k hk
      · simp
    · by_cases hload : r.state = .loading
      · have hrule := loadRule_loading hi hr hload
        have hexec := State.takeVerb_eq ht hv hcom hrule rfl rfl
        refine ⟨_, hexec, rfl, rfl, fun h => absurd h hn, fun j q x hj => ?_⟩
        obtain ⟨rfl, rfl, rfl⟩ := State.heldAt_unique hone hh hj
        exact ⟨fun h => absurd h hres, fun _ => ⟨State.answered_replied hv _ rfl rfl rfl, rfl⟩,
          fun _ h => absurd hload h⟩
      · have hrule := loadRule_other hi hr hres hload
        have hexec := State.takeVerb_eq ht hv hcom hrule rfl rfl
        refine ⟨_, hexec, rfl, rfl, fun h => absurd h hn, fun j q x hj => ?_⟩
        obtain ⟨rfl, rfl, rfl⟩ := State.heldAt_unique hone hh hj
        exact ⟨fun h => absurd h hres, fun h => absurd h hload,
          fun _ _ => ⟨State.answered_replied hv _ rfl rfl rfl, rfl⟩⟩

/-! ### VOID (R152) -/

theorem State.entry?_isSome_iff (s : State) (n : Nat) : (s.entry? n).isSome = true ↔ ∃ e ∈ s.book, e.order = n := by
  simp [State.entry?]

theorem voidRule_entry {s : State} {c : CommandFrame} (h : s.holder? c.order = none)
    (he : ∃ e ∈ s.book, e.order = c.order) : voidRule c s = (s.dropEntry c.order, .accept 0 0) := by
  simp only [voidRule, h, (s.entry?_isSome_iff _).mpr he, if_true]

theorem voidRule_unknown {s : State} {c : CommandFrame} (h : s.holder? c.order = none)
    (he : ¬ ∃ e ∈ s.book, e.order = c.order) : voidRule c s = (s, .refuse .unknownOrder 0 0) := by
  rw [← s.entry?_isSome_iff] at he
  simp [voidRule, h, he]

section
variable {s : State} {c : CommandFrame} {i : Nat} {r : Locker} (h : s.holder? c.order = some i)
  (hr : s.locker? i = some r)
include h hr

theorem voidRule_reserved (hs : r.state = .reserved) : voidRule c s =
    (((s.notify i .cancelled .none r.orderNumber).vacate i).recompute i, .accept i 0) := by
  simp [voidRule, h, hr, hs, LockerState.code]

theorem voidRule_loading (hs : r.state = .loading) : voidRule c s =
    (s.modLocker i fun r => { r with voidPending := true }, .accept i 2) := by
  simp [voidRule, h, hr, hs, LockerState.code]

theorem voidRule_holding (hs : r.state = .holding) : voidRule c s =
    ((s.retire i .voided).recompute i, .accept i 5) := by
  simp [voidRule, h, hr, hs, LockerState.code]

/-- R152: the states in which VOID changes no record. -/
theorem voidRule_kept (h1 : r.state ≠ .reserved) (h2 : r.state ≠ .loading) (h3 : r.state ≠ .holding) :
    voidRule c s = (s, if r.state = .retired ∨ r.state = .fault then .accept i r.state.code
      else .refuse .wrongState i r.state.code) := by
  cases hs : r.state <;> simp_all [voidRule]

end

/-- Settles O54: an open entry, an unknown order, or the one record that holds the order. -/
theorem voidCancelsOrder : Obligations.VoidCancelsOrder := by
  intro s c rest hone ht hv hcom
  by_cases hn : s.HeldNowhere c.order
  · have hnone : (s.taken rest).holder? c.order = none := (State.holder?_eq_none_iff s _).mpr hn
    by_cases he : ∃ e ∈ s.book, e.order = c.order
    · have hexec := State.takeVerb_eq ht hv hcom (voidRule_entry hnone he) rfl rfl
      exact ⟨_, hexec, rfl, rfl, fun _ _ => ⟨State.answered_replied hv _ rfl rfl rfl, rfl, rfl, rfl, rfl⟩,
        fun _ h => absurd he fun ⟨e, hm, ho⟩ => h e hm ho, fun i r o h => absurd h.2.2 (hn i r o h.1 h.2.1)⟩
    · have hexec := State.takeVerb_eq ht hv hcom (voidRule_unknown hnone he) rfl rfl
      exact ⟨_, hexec, rfl, rfl, fun _ h => absurd h he,
        fun _ _ => ⟨State.answered_replied hv _ rfl rfl rfl, rfl, rfl⟩,
        fun i r o h => absurd h.2.2 (hn i r o h.1 h.2.1)⟩
  · obtain ⟨i, r, o, hh⟩ := State.heldAt_of_not_heldNowhere hn
    have hr : (s.taken rest).locker? i = some r := hh.1
    have hi : (s.taken rest).holder? c.order = some i := State.holder?_of_heldAt hone hh
    have hnum : r.orderNumber = o.order := by simp [Locker.orderNumber, hh.2.1]
    by_cases hres : r.state = .reserved
    · have hexec := State.takeVerb_eq ht hv hcom (voidRule_reserved hi hr hres) (by simp) (by simp)
      have hrow := (((s.taken rest).oneRow_notify i .cancelled .none r.orderNumber).trans
        (State.oneRow_vacate ..)).trans (State.oneRow_recompute ..)
      have hvac : (((s.taken rest).notify i .cancelled .none r.orderNumber).vacate i).locker? i = some r.toVacant := by
        simp [hr]
      refine ⟨_, hexec, by simp [State.TakenFrom], by simp, fun h => absurd h hn, fun h => absurd h hn,
        fun j q x hj => ?_⟩
      obtain ⟨rfl, rfl, rfl⟩ := State.heldAt_unique hone hh hj
      refine ⟨(hrow.replied c _).1, (hrow.replied c _).2, by simp [State.replied], by simp [State.replied],
        fun _ => ⟨State.answered_replied hv _ (by simp) (by simp) (by simp), ?_, ?_, ?_⟩, ?_, ?_, ?_, ?_⟩
      · simp [State.replied, hnum]
      · exact State.recompute_locker?_cold hvac rfl
      · simpa using State.recompute_grant_cold hvac rfl
      all_goals simp [hres]
    by_cases hload : r.state = .loading
    · have hexec := State.takeVerb_eq ht hv hcom (voidRule_loading hi hr hload) (by simp) (by simp)
      have hrow := (s.taken rest).oneRow_modLocker i fun r => { r with voidPending := true }
      refine ⟨_, hexec, by simp [State.TakenFrom], by simp, fun h => absurd h hn, fun h => absurd h hn,
        fun j q x hj => ?_⟩
      obtain ⟨rfl, rfl, rfl⟩ := State.heldAt_unique hone hh hj
      refine ⟨(hrow.replied c _).1, (hrow.replied c _).2, by simp [State.replied], by simp [State.replied], ?_,
        fun _ => ⟨State.answered_replied hv _ (by simp) (by simp) (by simp), ?_, ?_, ?_⟩, ?_, ?_, ?_⟩
      · simp [hload]
      · simp [State.replied]
      · simp [hj.1]
      all_goals simp [hload]
    by_cases hhold : r.state = .holding
    · have hexec := State.takeVerb_eq ht hv hcom (voidRule_holding hi hr hhold) (by simp)
        (by simp [State.retire_line hr])
      have hrow := ((s.taken rest).oneRow_retire i .voided).trans (State.oneRow_recompute ..)
      have hret : ((s.taken rest).retire i .voided).locker? i = some (r.toRetired .voided) := by simp [hr]
      refine ⟨_, hexec, by simp [State.TakenFrom], by simp, fun h => absurd h hn, fun h => absurd h hn,
        fun j q x hj => ?_⟩
      obtain ⟨rfl, rfl, rfl⟩ := State.heldAt_unique hone hh hj
      have hline := State.retire_line hr .voided
      refine ⟨(hrow.replied c _).1, (hrow.replied c _).2, by simp [State.replied, hline], by simp [State.replied, hline],
        ?_, ?_, fun _ => ⟨State.answered_replied hv _ (by simp [hline]) (by simp [hline]) (by simp [hline]), ?notices,
          State.recompute_locker?_cold hret rfl, ?grant⟩, ?_, ?_⟩
      case notices => simp [State.replied, hline, hnum]
      case grant => simpa using State.recompute_grant_cold hret rfl
      all_goals simp [hhold]
    · have hexec := State.takeVerb_eq ht hv hcom (voidRule_kept hi hr hres hload hhold) rfl rfl
      have hrow := State.OneRow.refl (s.taken rest) i
      refine ⟨_, hexec, rfl, rfl, fun h => absurd h hn, fun h => absurd h hn, fun j q x hj => ?_⟩
      obtain ⟨rfl, rfl, rfl⟩ := State.heldAt_unique hone hh hj
      refine ⟨(hrow.replied c _).1, (hrow.replied c _).2, rfl, rfl, fun h => absurd h hres, fun h => absurd h hload,
        fun h => absurd h hhold, fun hs => ?_, fun hs => ?_⟩
      · rw [if_pos hs]
        exact ⟨State.answered_replied hv _ rfl rfl rfl, rfl, hj.1, rfl⟩
      · rw [if_neg (by simp [hs])]
        have ha := State.answered_replied hv (.refuse .wrongState j q.state.code) (s := s) (v := s.taken rest) rfl rfl rfl
        rw [hs] at ha ⊢
        exact ⟨ha, rfl, hj.1, rfl⟩

/-! ### CLEAR, BLOCK and UNBLOCK (R153, R154) -/

/-- R153, R154: a locker verb whose operand names a swept record. -/
theorem lockerRule_swept {s : State} {c : CommandFrame} {r : Locker} (h : s.locker? c.operand = some r)
    (hs : r.swept = true) (rule : Nat → Locker → State → State × Answer) :
    lockerRule rule c s = rule c.operand r s := by simp [lockerRule, h, hs]

section
variable {s : State} {c : CommandFrame} {rest : List CommandFrame} {i : Nat} {r : Locker} (ht : s.Takes c rest)
  (hcom : s.straps.commission = false) (hi : c.ops.getD 0 0 = i) (hr : s.locker? i = some r) (hs : r.swept = true)
include ht hcom hi hr hs

/-- R153, R154: a locker verb of a swept record, taken outside COMMISSION. -/
theorem State.takeLockerVerb_eq {v : State} {a : Answer} {verb : Nat} (hv : c.verb = verb)
    {rule : Nat → Locker → State → State × Answer} (hrule : rule i r (s.taken rest) = (v, a))
    (hcip : v.cip = (s.taken rest).cip) (hrep : v.line.replies = s.line.replies) :
    (.next (s.takeVerb (CommandFrame.isVerb verb) (inService (lockerRule rule))) : Host.Outcome State Fault Refusal) =
      .next (v.replied c a) := by
  have hop : c.operand = i := hi
  refine State.takeVerb_eq ht hv hcom ?_ hcip hrep
  rw [lockerRule_swept (by rw [hop]; exact hr) hs, hop]
  exact hrule

end

/-- Settles O56: each verb moves the record in the states that it knows, and refuses it in the others. -/
theorem lockerVerbsMoveRecord : Obligations.LockerVerbsMoveRecord := by
  intro s c rest i r hlatch ht hcom hi hr hs
  have hr' : (s.taken rest).locker? i = some r := hr
  have hsame := State.OneRow.refl (s.taken rest) i
  refine ⟨fun hv => ?_, fun hv => ?_, fun hv => ?_⟩
  · by_cases hst : r.state = .retired ∨ r.state = .fault ∨ r.state = .blocked
    · by_cases hc : r.cycle = .none
      · have hexec := State.takeLockerVerb_eq ht hcom hi hr hs hv (rule := clearRule)
          (v := (s.taken rest).beginCycle i) (a := .accept i r.state.code) (by simp [clearRule, hst, hc]) (by simp)
          (by simp)
        by_cases hd : r.doorOpen = true
        · have hopen := State.beginCycle_open hr' hd
          have hrow := (s.taken rest).oneRow_modLocker i fun _ => { r with attempts := 0, cycle := .opened }
          rw [hopen] at hexec
          exact ⟨_, hexec, by simp [State.TakenFrom], by simp [State.replied], (hrow.replied c _).1, (hrow.replied c _).2,
            by simp, fun _ => ⟨State.answered_replied hv _ (by simp) (by simp) (by simp), fun h => absurd hc h,
              fun _ _ => ⟨by simp [hr], by simp⟩, fun _ h => by simp [hd] at h⟩, fun h => absurd hst h⟩
        · obtain ⟨hl, hq, hrow⟩ := State.beginCycle_closed hr' (by simpa using hd) (by simpa using hlatch.idle)
          exact ⟨_, hexec, by simp [State.TakenFrom], by simp [State.replied], (hrow.replied c _).1, (hrow.replied c _).2,
            by simp, fun _ => ⟨State.answered_replied hv _ (by simp) (by simp) (by simp), fun h => absurd hc h,
              fun _ h => absurd h hd, fun _ _ => ⟨hl, hq⟩⟩, fun h => absurd hst h⟩
      · have hexec := State.takeLockerVerb_eq ht hcom hi hr hs hv (rule := clearRule)
          (v := s.taken rest) (a := .accept i r.state.code) (by simp [clearRule, hst, hc]) rfl rfl
        exact ⟨_, hexec, rfl, rfl, (hsame.replied c _).1, (hsame.replied c _).2, rfl,
          fun _ => ⟨State.answered_replied hv _ rfl rfl rfl, fun _ => ⟨hr, rfl⟩, fun h => absurd h hc,
            fun h => absurd h hc⟩, fun h => absurd hst h⟩
    · have hexec := State.takeLockerVerb_eq ht hcom hi hr hs hv (rule := clearRule)
        (v := s.taken rest) (a := .refuse .wrongState i r.state.code) (by simp [clearRule, hst]) rfl rfl
      exact ⟨_, hexec, rfl, rfl, (hsame.replied c _).1, (hsame.replied c _).2, rfl, fun h => absurd h hst,
        fun _ => ⟨State.answered_replied hv _ rfl rfl rfl, hr, rfl⟩⟩
  · by_cases hst : r.state = .vacant
    · have hexec := State.takeLockerVerb_eq ht hcom hi hr hs hv (rule := blockRule)
        (v := ((s.taken rest).modLocker i fun r => { r with state := .blocked }).recompute i) (a := .accept i 6)
        (by simp [blockRule, hst, LockerState.code]) (by simp) (by simp)
      have hrow := ((s.taken rest).oneRow_modLocker i fun r => { r with state := .blocked }).trans
        (State.oneRow_recompute ..)
      have hblocked : ((s.taken rest).modLocker i fun r => { r with state := .blocked }).locker? i =
        some { r with state := .blocked } := by simp [hr]
      exact ⟨_, hexec, by simp [State.TakenFrom], by simp [State.replied], (hrow.replied c _).1, (hrow.replied c _).2,
        by simp, fun _ => ⟨State.answered_replied hv _ (by simp) (by simp) (by simp),
          State.recompute_locker?_cold hblocked rfl, by simpa using State.recompute_grant_cold hblocked rfl⟩,
        fun h => absurd hst h⟩
    · have hexec := State.takeLockerVerb_eq ht hcom hi hr hs hv (rule := blockRule)
        (v := s.taken rest) (a := .refuse .wrongState i r.state.code) (by simp [blockRule, hst]) rfl rfl
      exact ⟨_, hexec, rfl, rfl, (hsame.replied c _).1, (hsame.replied c _).2, rfl, fun h => absurd h hst,
        fun _ => ⟨State.answered_replied hv _ rfl rfl rfl, hr, rfl⟩⟩
  · by_cases hst : r.state = .blocked
    · have hexec := State.takeLockerVerb_eq ht hcom hi hr hs hv (rule := unblockRule)
        (v := ((s.taken rest).modLocker i Locker.unblocked).recompute i) (a := .accept i 0)
        (by simp [unblockRule, hst, LockerState.code]) (by simp) (by simp)
      have hrow := ((s.taken rest).oneRow_modLocker i Locker.unblocked).trans (State.oneRow_recompute ..)
      have hfree : ((s.taken rest).modLocker i Locker.unblocked).locker? i = some r.unblocked := by simp [hr]
      exact ⟨_, hexec, by simp [State.TakenFrom], by simp [State.replied], (hrow.replied c _).1, (hrow.replied c _).2,
        by simp, fun _ => ⟨State.answered_replied hv _ (by simp) (by simp) (by simp),
          State.recompute_locker?_cold hfree rfl, by simpa using State.recompute_grant_cold hfree rfl⟩,
        fun h => absurd hst h⟩
    · have hexec := State.takeLockerVerb_eq ht hcom hi hr hs hv (rule := unblockRule)
        (v := s.taken rest) (a := .refuse .wrongState i r.state.code) (by simp [unblockRule, hst]) rfl rfl
      exact ⟨_, hexec, rfl, rfl, (hsame.replied c _).1, (hsame.replied c _).2, rfl, fun h => absurd h hst,
        fun _ => ⟨State.answered_replied hv _ rfl rfl rfl, hr, rfl⟩⟩

end Sys2Proof.Machine
end

section
/-! PROOFS. ENTER (O60). -/

namespace Sys2Proof.Machine

/-! ### Levels -/

/-- R51: the levels of the table. -/
theorem Locker.levelNow_le (r : Locker) (classes : List (Option ClassEntry)) (clock : Option Nat) (commission : Bool) :
    r.levelNow classes clock commission ≤ 7 := by
  have htable : ∀ (c : ClassEntry) m, tableLevel r c m ≤ 7 := by
    intro c m
    unfold tableLevel
    repeat' split
    all_goals omega
  unfold Locker.levelNow
  split
  · omega
  · split
    · exact htable ..
    · omega

/-- R66: what a recomputation makes of the grant list. -/
theorem State.recompute_grant_eq {s : State} {i : Nat} {r : Locker} (h : s.locker? i = some r) :
    (s.recompute i).grant = { s.grant with list :=
      if (r.recomputed s.time.classes s.time.clock s.straps.commission).level = 0 then s.grant.list.filter (· != i)
      else s.grant.list } := by
  rw [State.recompute_some h]
  split <;> simp

/-! ### Match requests (R25) -/

theorem State.matchRequest_keypad (s : State) (order digits : Nat) :
    (s.matchRequest order digits).1.keypad = s.keypad := by
  unfold State.matchRequest
  repeat' split
  all_goals simp

/-- R3: the record that the search finds holds the order. -/
theorem State.heldAt_of_holder? {s : State} {n i : Nat} {r : Locker} {o : OrderPart} (h : s.holder? n = some i)
    (hr : s.locker? i = some r) (ho : r.order = some o) : s.HeldAt n i r o := by
  have hi := List.find?_some h
  rw [hr] at hi
  obtain ⟨x, hx, hn⟩ := (r.holds_iff n).mp hi
  exact ⟨hr, ho, by rw [← hn, Option.some.inj (ho.symm.trans hx)]⟩

/-- R25: no record holds the order with these digits. -/
theorem State.matchRequest_noMatch {s : State} {order digits : Nat}
    (h : ∀ i r o, s.HeldAt order i r o → o.digits ≠ digits) : s.matchRequest order digits = (s, .noMatch) := by
  unfold State.matchRequest
  split
  · rfl
  next i hi =>
    split
    · rfl
    next r hr =>
      have hm : matchOf r digits = .noMatch := by
        unfold matchOf
        split
        · rfl
        next o ho => rw [if_neg (h i r o (State.heldAt_of_holder? hi hr ho))]
      simp [hm]

/-- R25: the record that holds the order with these digits answers by its state. -/
theorem State.matchRequest_held {s : State} {order digits i : Nat} {r : Locker} {o : OrderPart} (hone : s.OneHolder)
    (h : s.HeldAt order i r o) : s.matchRequest order digits =
      if matchOf r digits = .released then
        (((s.modLocker i fun r => { r with state := .releasing }).beginCycle i).recompute i, .released)
      else (s, matchOf r digits) := by
  simp only [State.matchRequest, State.holder?_of_heldAt hone h, h.1]

theorem matchOf_eq {r : Locker} {o : OrderPart} (h : r.order = some o) : matchOf r o.digits = match r.state with
    | .holding => .released
    | .releasing => .alreadyReleasing
    | .reserved | .loading => .notReady
    | .retired | .fault => .seeStaff
    | .vacant | .blocked => .noMatch := by
  cases hs : r.state <;> simp [matchOf, h, hs]

/-! ### Entries (R176, R177) -/

/-- R176: the state once the buffer has been taken. -/
def State.entryTaken (s : State) : State := s.withKeypad s.keypad.emptied

theorem State.judgeEntry_empty (s : State) : s.judgeEntry [] false = s.entryTaken := rfl

theorem State.judgeEntry_refused (s : State) {digits : List Nat} {overlong : Bool}
    (h : overlong = true ∨ digits.length = 1 ∨ digits.length = 2) :
    s.judgeEntry digits overlong = s.entryTaken.withKeypad s.entryTaken.keypad.refuse := by
  have hne : ¬ ((digits.isEmpty && !overlong) = true) := by
    rcases h with h | h | h
    · simp [h]
    all_goals
      have : digits ≠ [] := fun hn => by simp [hn] at h
      simp [this]
  have hshort : digits.length ≤ 2 ∨ overlong = true := h.elim .inr fun h => .inl (by omega)
  simp only [State.judgeEntry, if_neg hne, if_pos hshort]
  rfl

theorem State.judgeEntry_matched (s : State) {front : List Nat} (h : front ≠ []) (a b : Nat) :
    s.judgeEntry (front ++ [a, b]) false =
      (s.entryTaken.matchRequest (decimal front) (a * 10 + b)).1.withKeypad
        (s.entryTaken.keypad.outcome (s.entryTaken.matchRequest (decimal front) (a * 10 + b)).2) := by
  have hlen : 0 < front.length := List.length_pos_iff.mpr h
  have hne : ¬ (((front ++ [a, b]).isEmpty && !false) = true) := by simp
  have hshort : ¬ ((front ++ [a, b]).length ≤ 2 ∨ false = true) := by
    simp only [List.length_append, List.length_cons, List.length_nil]
    simp
    omega
  have hcut : (front ++ [a, b]).length - 2 = front.length := by simp
  have hdec : decimal [a, b] = a * 10 + b := by simp [decimal]
  simp only [State.judgeEntry, if_neg hne, if_neg hshort, hcut, List.take_left', List.drop_left', hdec]
  simp only [State.matchRequest_keypad]
  rfl

/-- R10, R25: the record enters RELEASING and a door cycle begins. -/
def State.released (s : State) (i : Nat) : State :=
  ((s.modLocker i fun r => { r with state := .releasing }).beginCycle i).recompute i

/-- R10: the record that enters RELEASING behind a closed door, before its level is recomputed. -/
def Locker.releasing (r : Locker) (served : Bool) : Locker :=
  { r with state := .releasing, attempts := 0, cycle := if served then .pulsing else .queued }

/-- R10, R49, R163, R165: the release of a record behind a closed door. -/
theorem State.released_closed {s : State} {i : Nat} {r q : Locker} (h : s.locker? i = some r) (hd : r.doorOpen = false)
    (hidle : s.latch.pulse = none → s.time.supplyLow = false → s.latch.queue = [])
    (hq : q = (r.releasing (decide (s.latch.pulse = none ∧ s.time.supplyLow = false))).recomputed s.time.classes
      s.time.clock s.straps.commission) :
    (s.released i).locker? i = some q ∧ (s.released i).latch = s.latch.requested i s.time.supplyLow ∧
    (s.released i).line = s.line ∧ (s.released i).grant =
      { s.grant with list := if q.level = 0 then s.grant.list.filter (· != i) else s.grant.list } ∧
    s.OneRow i (s.released i) := by
  obtain ⟨hl, hlatch, hrow⟩ := State.beginCycle_closed (s := s.modLocker i fun r => { r with state := .releasing })
    (i := i) (r := { r with state := .releasing }) (by simp [h]) hd (by simpa using hidle)
  have hl : ((s.modLocker i fun r => { r with state := .releasing }).beginCycle i).locker? i =
      some (r.releasing (decide (s.latch.pulse = none ∧ s.time.supplyLow = false))) := by
    simpa [Locker.releasing] using hl
  have hgrant := State.recompute_grant_eq hl
  refine ⟨?_, ?_, ?_, ?_, ((s.oneRow_modLocker i _).trans hrow).trans (State.oneRow_recompute ..)⟩
  · have hself := State.recompute_locker?_self hl
    simp only [State.beginCycle_frame, State.modLocker_frame, ← hq] at hself
    exact hself
  · simpa [State.released] using hlatch
  · simp [State.released]
  · simpa [State.released, hq] using hgrant

/-- R176: an entry whose order is held with its digits. -/
theorem State.judgeEntry_held {s : State} {front : List Nat} (hf : front ≠ []) {a b i : Nat} {r : Locker} {o : OrderPart}
    (hone : s.OneHolder) (hh : s.HeldAt (decimal front) i r o) (hd : o.digits = a * 10 + b) :
    s.judgeEntry (front ++ [a, b]) false = if r.state = .holding then
        (s.entryTaken.released i).withKeypad (s.entryTaken.keypad.sound .accept)
      else s.entryTaken.withKeypad (s.entryTaken.keypad.outcome (matchOf r o.digits)) := by
  rw [State.judgeEntry_matched s hf, State.matchRequest_held (s := s.entryTaken) hone hh, ← hd]
  by_cases hst : r.state = .holding
  · have hm : matchOf r o.digits = .released := by rw [matchOf_eq hh.2.1, hst]
    rw [if_pos hm, if_pos hst]
    rfl
  · rw [if_neg fun hm => hst (holding_of_matchOf_released hm), if_neg hst]

/-- R177, R179: no outcome touches the scanner or fills the buffer. -/
theorem Keypad.outcome_entry (k : Keypad) (m : MatchResult) :
    (k.emptied.outcome m).scan = k.scan ∧ (k.emptied.outcome m).buffer = [] ∧
    (k.emptied.outcome m).overlong = false ∧ (k.emptied.outcome m).entryTimer = none := by
  cases m
  case noMatch =>
    simp only [Keypad.outcome, Keypad.refuse]
    split <;> exact ⟨rfl, rfl, rfl, rfl⟩
  all_goals exact ⟨rfl, rfl, rfl, rfl⟩

/-- R176: whatever an entry is judged to be, the buffer is empty. -/
theorem State.judgeEntry_keypad (s : State) (digits : List Nat) (overlong : Bool) :
    (s.judgeEntry digits overlong).keypad.scan = s.keypad.scan ∧ (s.judgeEntry digits overlong).keypad.buffer = [] ∧
    (s.judgeEntry digits overlong).keypad.overlong = false ∧
    (s.judgeEntry digits overlong).keypad.entryTimer = none := by
  unfold State.judgeEntry
  dsimp only
  split
  · exact ⟨rfl, rfl, rfl, rfl⟩
  · split
    · exact s.keypad.outcome_entry .noMatch
    · rw [State.withKeypad_keypad, State.matchRequest_keypad]
      exact s.keypad.outcome_entry _

/-! ### The row -/

theorem execEnterKey_open {s : State} (hs : s.keypad.scan = .up) (hl : s.keypad.lockout = none) :
    execEnterKey s = .next ((s.acceptKey .enter).judgeEntry s.keypad.buffer s.keypad.overlong) := by
  simp [execEnterKey, State.acceptKey, hs, hl]

theorem execEnterKey_locked {s : State} (hs : s.keypad.scan = .up) (hl : s.keypad.lockout.isSome = true) :
    execEnterKey s = .next (s.acceptKey .enter) := by
  simp [execEnterKey, State.acceptKey, hs, hl]

/-- R177, R179, R180: a refused entry. -/
theorem Keypad.refuse_emptied (k : Keypad) (h : k.lockout = none) :
    if k.strikes.length < 2 then k.emptied.refuse.strikes = k.strikes ++ [0] ∧ k.emptied.refuse.lockout = none ∧
      k.emptied.refuse.beeper = some ⟨.alert, 0⟩
    else k.emptied.refuse.strikes = [] ∧ k.emptied.refuse.lockout = some 0 ∧
      k.emptied.refuse.beeper = some ⟨.lockout, 0⟩ := by
  split
  next hlt =>
    have hn : ¬ 3 ≤ k.emptied.strikes.length + 1 := by simp only [Keypad.emptied]; omega
    rw [Keypad.refuse, if_neg hn]
    exact ⟨rfl, h, rfl⟩
  next hlt =>
    have hn : 3 ≤ k.emptied.strikes.length + 1 := by simp only [Keypad.emptied]; omega
    rw [Keypad.refuse, if_pos hn]
    exact ⟨rfl, rfl, rfl⟩

/-- Settles O60: an entry is empty, refused or matched, and a match answers by the record's state. -/
theorem enterJudgesEntry : Obligations.EnterJudgesEntry := by
  intro s hs hone
  by_cases hl : s.keypad.lockout = none
  · have hk := (s.acceptKey .enter).judgeEntry_keypad s.keypad.buffer s.keypad.overlong
    refine ⟨_, execEnterKey_open hs hl, hk.1, fun h => by simp [hl] at h, fun _ => ⟨hk.2.1, hk.2.2.1, hk.2.2.2,
      fun hb ho => ?_, fun h => ?_, fun front a b i r o ho hb hf hh hd hv hbl => ?_⟩⟩
    · rw [hb, ho, State.judgeEntry_empty]
      exact ⟨rfl, rfl, hl, rfl⟩
    · have ht : (s.acceptKey .enter).judgeEntry s.keypad.buffer s.keypad.overlong =
          (s.acceptKey .enter).entryTaken.withKeypad (s.acceptKey .enter).entryTaken.keypad.refuse := by
        rcases h with h | h | h | ⟨front, a, b, hb, hf, hno⟩
        · exact State.judgeEntry_refused _ (.inl h)
        · exact State.judgeEntry_refused _ (.inr (.inl h))
        · exact State.judgeEntry_refused _ (.inr (.inr h))
        · cases ho : s.keypad.overlong
          · have hm : (s.acceptKey .enter).entryTaken.matchRequest (decimal front) (a * 10 + b) =
                ((s.acceptKey .enter).entryTaken, .noMatch) := State.matchRequest_noMatch hno
            rw [hb, State.judgeEntry_matched _ hf, hm]
            rfl
          · exact State.judgeEntry_refused _ (.inl rfl)
      rw [ht]
      exact ⟨rfl, (s.acceptKey .enter).keypad.refuse_emptied hl⟩
    · have ht := State.judgeEntry_held (s := s.acceptKey .enter) hf hone hh hd
      rw [ho, hb, ht]
      cases hst : r.state
      case vacant => exact absurd hst hv
      case blocked => exact absurd hst hbl
      case holding =>
        refine ⟨rfl, hl, by simp, by simp, by simp, fun _ hdoor hlatch => ?_⟩
        obtain ⟨hself, hserved, hline, hgrant, hrow⟩ := State.released_closed (s := (s.acceptKey .enter).entryTaken)
          (i := i) (r := r) hh.1 hdoor hlatch.idle rfl
        refine ⟨rfl, hserved, hline, ⟨_, hself, ?_, ?_, hgrant⟩, hrow.others, ?_⟩
        · exact Locker.levelNow_le ..
        · have hbut := Locker.recomputed_but (r.releasing (decide (s.latch.pulse = none ∧ s.time.supplyLow = false)))
            s.time.classes s.time.clock s.straps.commission
          have hbut := congrArg (fun q : Locker => { q with level := r.level }) hbut
          exact hbut.trans (by simp [Locker.releasing])
        · obtain ⟨hstraps, htime, hscan, -, hbook, hshare, hcip, hlamp, howed, hties, hpend⟩ :=
            (State.lockerSideOnly_iff ..).mp hrow.side
          exact (State.lockerSideOnly_iff ..).mpr
            ⟨hstraps, htime, hscan, rfl, hbook, hshare, hcip, hlamp, howed, hties, hpend⟩
      all_goals rw [matchOf_eq hh.2.1, hst]
      case releasing => exact ⟨rfl, hl, fun _ => ⟨rfl, rfl⟩, by simp, by simp, by simp⟩
      case reserved => exact ⟨rfl, hl, by simp, fun _ => ⟨rfl, rfl⟩, by simp, by simp⟩
      case loading => exact ⟨rfl, hl, by simp, fun _ => ⟨rfl, rfl⟩, by simp, by simp⟩
      case retired => exact ⟨rfl, hl, by simp, by simp, fun _ => ⟨rfl, rfl⟩, by simp⟩
      case fault => exact ⟨rfl, hl, by simp, by simp, fun _ => ⟨rfl, rfl⟩, by simp⟩
  · have hsome : s.keypad.lockout.isSome = true := Option.isSome_iff_ne_none.mpr hl
    refine ⟨_, execEnterKey_locked hs hsome, rfl, fun _ => ⟨rfl, ?_⟩, fun h => absurd h hl⟩
    rw [← hs]
    rfl

end Sys2Proof.Machine
end

section
/-! PROOFS. Probe samples: S, the seeded flag and the fault run (O21). -/

namespace Sys2Proof.Machine

/-- R31, R32: what a sample makes of S, the seeded flag and the probe fault run. -/
theorem Locker.sampled_values (r : Locker) (raw : Nat) :
    if raw = 0 ∨ raw = 255 then
      (r.sampled raw).temp = r.temp ∧ (r.sampled raw).seeded = r.seeded ∧
        (r.sampled raw).faultRun = min 3 (r.faultRun + 1)
    else (r.sampled raw).faultRun = 0 ∧ (r.sampled raw).seeded = true ∧
      (r.sampled raw).temp = if r.seeded then (3 * r.temp + raw + 2) / 4 else raw := by
  unfold Locker.sampled
  split <;> simp

/-- R31: a seeded S in its range stays in it. -/
theorem Locker.sampled_temp_range {r : Locker} {raw : Nat} (hs : r.seeded = true) (hlo : 1 ≤ r.temp)
    (hhi : r.temp ≤ 254) (hraw : raw ≤ 255) : 1 ≤ (r.sampled raw).temp ∧ (r.sampled raw).temp ≤ 254 := by
  have h := r.sampled_values raw
  by_cases hf : raw = 0 ∨ raw = 255
  · rw [if_pos hf] at h
    rw [h.1]
    exact ⟨hlo, hhi⟩
  · rw [if_neg hf, if_pos hs] at h
    rw [h.2.2]
    omega

/-- R31, R32: the counts, the held inputs, the timers and the keep cycle stand through a sample. -/
theorem Locker.sampled_counts (r : Locker) (raw : Nat) :
    (r.sampled raw).cold = r.cold ∧ (r.sampled raw).holdAge = r.holdAge ∧
    (r.sampled raw).doorOpen = r.doorOpen ∧ (r.sampled raw).trayPresent = r.trayPresent ∧
    (r.sampled raw).openWait = r.openWait ∧ (r.sampled raw).ajar = r.ajar ∧
    (r.sampled raw).keepOn = r.keepOn ∧ (r.sampled raw).keepCount = r.keepCount := by
  unfold Locker.sampled
  split <;> simp

/-- R8: S, its flag and run, and the keep cycle stand through a fault. -/
theorem Locker.toFault_values (r : Locker) (why : FaultReason) :
    (r.toFault why).seeded = r.seeded ∧ (r.toFault why).faultRun = r.faultRun ∧
    (r.toFault why).keepOn = r.keepOn ∧ (r.toFault why).keepCount = r.keepCount := by
  unfold Locker.toFault
  split <;> simp

/-- R15, R33, R40: what a sample result leaves of the record: all but the state, its reasons and void pending, the door
cycle with its attempts, and the ready flag. -/
theorem State.takeResult_kept {s : State} {i : Nat} {r : Locker} (h : s.locker? i = some r) :
    ∃ p, (s.takeResult i).locker? i = some p ∧ p.temp = r.temp ∧ p.seeded = r.seeded ∧ p.faultRun = r.faultRun ∧
      p.phase = r.phase ∧ p.order = r.order ∧ p.cold = r.cold ∧ p.holdAge = r.holdAge ∧ p.doorOpen = r.doorOpen ∧
      p.trayPresent = r.trayPresent ∧ p.openWait = r.openWait ∧ p.ajar = r.ajar ∧ p.keepOn = r.keepOn ∧
      p.keepCount = r.keepCount := by
  rcases State.takeResult_cases h with ⟨-, ht⟩ | ⟨-, ht⟩ <;> rw [ht]
  · rcases State.probeFault_cases h with ⟨-, hp⟩ | ⟨-, hp⟩ <;> rw [hp]
    · exact ⟨r.ended.toFault .probe, by simp [h], by simp [Locker.toFault_values, Locker.ended]⟩
    · exact ⟨r.toFault .probe, by simp [h], by simp [Locker.toFault_values]⟩
  · rcases State.judgeReady_cases h with ⟨-, hp⟩ | ⟨-, hp⟩ <;> rw [hp]
    · exact ⟨{ r with ready := true }, by simp [h], by simp⟩
    · exact ⟨r, h, by simp⟩

/-- R53: a recomputation that leaves the phase leaves the keep cycle. -/
theorem Locker.recomputed_keep {r : Locker} {classes : List (Option ClassEntry)} {clock : Option Nat}
    {commission : Bool} (h : (r.recomputed classes clock commission).phase = r.phase) :
    (r.recomputed classes clock commission).keepOn = r.keepOn ∧
    (r.recomputed classes clock commission).keepCount = r.keepCount := by
  change (r.judgePhase classes).phase = r.phase at h
  change (r.judgePhase classes).keepOn = r.keepOn ∧ (r.judgePhase classes).keepCount = r.keepCount
  revert h
  unfold Locker.judgePhase
  repeat' split
  all_goals simp_all [Locker.enterKeep]

/-- Settles O21: the sample sets S, its flag and its run, the result that it gives leaves them, and the record is then
recomputed. -/
theorem probeSampleSmooths : Obligations.ProbeSampleSmooths := by
  intro i raw s r hr hs
  obtain ⟨p, hp, htemp, hseed, hrun, hphase, hkept⟩ := State.takeResult_kept (State.probeRead_locker? hr raw)
  have hself := State.recompute_locker?_self hp
  have hre := State.recomputed_recompute hp
  have hrow : s.OneRow i (((s.probeRead i raw).takeResult i).recompute i) :=
    (((s.oneRow_modPins i _).trans (State.oneRow_modLocker ..)).trans (State.oneRow_takeResult ..)).trans
      (State.oneRow_recompute ..)
  simp only [Locker.sampled_counts, Locker.sampled_fields] at hphase hkept
  obtain ⟨hord, hcold, hage, hdoor, htray, hwait, hajar, hon, hcount⟩ := hkept
  rw [hphase] at hre
  refine ⟨_, _, execProbeSample_eq hr hs, hself, ?_, fun h1 h2 h3 h4 => ?_, ?_⟩
  · simpa [htemp, hseed, hrun] using r.sampled_values raw
  · simpa [htemp] using Locker.sampled_temp_range h1 h2 h3 h4
  · refine ⟨by simp [hord], by simp [hcold], by simp [hage], by simp [hdoor], by simp [htray], by simp [hwait],
      by simp [hajar], hre, fun h => ?_, hrow.others, hrow.side⟩
    rw [← hphase] at h
    rw [← hon, ← hcount]
    exact Locker.recomputed_keep h

end Sys2Proof.Machine
end

section
/-! PROOFS. The second tick and the minute tick (O33 to O35). -/

namespace Sys2Proof.Machine

/-! ### A recomputation of every record and the grant list (R49, R66) -/

/-- R66: the list loses the record visited where its level becomes 0, and no other. -/
theorem State.mem_recompute_grant (s : State) (i j : Nat) :
    j ∈ (s.recompute i).grant.list ↔ j ∈ s.grant.list ∧ (j = i → ∀ r, s.locker? j = some r →
      (r.recomputed s.time.classes s.time.clock s.straps.commission).level ≠ 0) := by
  cases hr : s.locker? i with
  | none =>
    rw [State.recompute_none hr]
    simp +contextual [hr]
  | some r =>
    rw [State.recompute_some hr]
    by_cases hj : j = i
    · subst hj
      split <;> simp_all
    · split <;> simp [hj]

/-- R66: a recomputation lists no record anew. -/
theorem State.foldl_recompute_off_list (l : List Nat) {s : State} {i : Nat} (h : i ∉ s.grant.list) :
    i ∉ (l.foldl State.recompute s).grant.list := by
  induction l generalizing s with
  | nil => exact h
  | cons k l ih => exact ih fun hi => h ((State.mem_recompute_grant ..).mp hi).1

/-- R66: a record whose level has become 0 is not on the grant list. -/
theorem State.recomputeAll_off_list (s : State) {i : Nat} {q : Locker} (h : s.recomputeAll.locker? i = some q)
    (h0 : q.level = 0) : i ∉ s.recomputeAll.grant.list := by
  obtain ⟨r, hr, hq⟩ : ∃ r, s.locker? i = some r ∧
      r.recomputed s.time.classes s.time.clock s.straps.commission = q := by simpa using h
  have hi : i ∈ s.indices := by
    by_contra hn
    simp [State.locker?_of_notMem_indices hn] at hr
  have key : ∀ l : List Nat, l.Nodup → i ∈ l → ∀ t : State, t.time = s.time → t.straps = s.straps →
      t.locker? i = some r → i ∉ (l.foldl State.recompute t).grant.list := by
    intro l
    induction l with
    | nil => simp
    | cons j l ih =>
      intro hn hl t ht hs htr
      obtain ⟨hj, hn⟩ := List.nodup_cons.mp hn
      rw [List.foldl_cons]
      by_cases hij : i = j
      · subst hij
        have hoff : i ∉ (t.recompute i).grant.list := by
          rw [State.mem_recompute_grant]
          simp [htr, ht, hs, hq, h0]
        exact State.foldl_recompute_off_list l hoff
      · exact ih hn ((List.mem_cons.mp hl).resolve_left hij) _ (by simpa using ht) (by simpa using hs)
          (by simp [hij, htr])
  exact key _ s.indices_nodup hi s rfl rfl hr

/-- R49, R66: every record stands recomputed, with the phase that it had. -/
theorem State.recomputed_recomputeAll {s : State} {i : Nat} {r : Locker} (h : s.locker? i = some r) :
    s.recomputeAll.Recomputed i r.phase := by
  intro q hq
  obtain rfl : r.recomputed s.time.classes s.time.clock s.straps.commission = q := by simpa [h] using hq
  exact ⟨by simpa using (r.recomputed_again ..).symm, s.recomputeAll_off_list hq⟩

/-! ### What a tick leaves unchanged -/

/-- Nothing changes but the Timebase, the Locker Table, the line and the grant list. -/
def State.TickSide (s t : State) : Prop :=
  ({ t with time := s.time, lockers := s.lockers, line := s.line, grant := s.grant } : State) = s

theorem State.tickSide_iff (s t : State) : s.TickSide t ↔
    t.straps = s.straps ∧ t.scanAt = s.scanAt ∧ t.latch = s.latch ∧ t.keypad = s.keypad ∧ t.book = s.book ∧
    t.share = s.share ∧ t.cip = s.cip ∧ t.lamp = s.lamp ∧ t.pins = s.pins ∧ t.owed = s.owed ∧ t.ties = s.ties ∧
    t.pending = s.pending := by
  cases s; cases t; simp [State.TickSide]

theorem State.TickSide.recomputeAll {s t : State} (h : s.TickSide t) : s.TickSide t.recomputeAll := by
  simpa [State.tickSide_iff] using h

theorem State.TickSide.checkLimits {s t : State} (h : s.TickSide t) (i : Nat) : s.TickSide (t.checkLimits i) := by
  cases hr : t.locker? i with
  | none => simpa [State.checkLimits, hr] using h
  | some r =>
    rw [State.checkLimits_eq hr]
    cases r.limitVerdict t.time.classes with
    | none => exact h
    | some why => simpa [State.tickSide_iff] using h

theorem State.TickSide.judgeMinute {s t : State} (h : s.TickSide t) (i : Nat) : s.TickSide (t.judgeMinute i) := by
  rw [State.tickSide_iff] at h ⊢
  unfold State.judgeMinute
  repeat' split
  all_goals simpa using h

theorem State.tickSide_secondChecked (s : State) : s.TickSide s.secondChecked :=
  State.forEach_keeps (P := s.TickSide) rfl fun _ i _ h => h.checkLimits i

/-! ### The second tick (R36 to R39, R54) -/

/-- R36, R37, R54: a record at a second tick, before the levels are recomputed. -/
def Locker.secondTicked (r : Locker) (classes : List (Option ClassEntry)) : Locker :=
  ((r.counted classes).retiredFor ((r.counted classes).limitVerdict classes)).keepTick classes

/-- The state of a second tick before the levels are recomputed. -/
def State.secondTicked (s : State) : State :=
  s.secondChecked.withLockers (s.secondChecked.lockers.map fun r => r.keepTick s.secondChecked.time.classes)

theorem execSecondTick_ticked (s : State) : execSecondTick s = .next s.secondTicked.recomputeAll := rfl

theorem State.secondTicked_frame (s : State) :
    s.secondTicked.time = s.time.secondTick ∧ s.secondTicked.straps = s.straps ∧
    s.secondTicked.line = s.secondChecked.line ∧ s.secondTicked.count = s.count := by
  have := s.secondChecked_frame
  simp_all [State.secondTicked, State.count]

theorem State.secondTicked_locker? {s : State} {i : Nat} {r : Locker} (h : s.locker? i = some r) :
    s.secondTicked.locker? i = some (r.secondTicked s.time.classes) := by
  rw [State.secondTicked, State.withLockers_map_locker?, State.secondChecked_locker?, h]
  simp [Locker.secondTicked, Timebase.secondTick]

/-- R36: the counts move the hold age and the cold exposure alone. -/
@[simp] theorem Locker.counted_fields (r : Locker) (classes : List (Option ClassEntry)) :
    (r.counted classes).state = r.state ∧ (r.counted classes).phase = r.phase ∧
    (r.counted classes).order = r.order ∧ (r.counted classes).ready = r.ready ∧
    (r.counted classes).cycle = r.cycle ∧ (r.counted classes).temp = r.temp ∧
    (r.counted classes).doorOpen = r.doorOpen ∧ (r.counted classes).keepOn = r.keepOn ∧
    (r.counted classes).keepCount = r.keepCount := by
  unfold Locker.counted
  repeat' split
  all_goals simp

/-- R54: the keep cycle alone moves. -/
@[simp] theorem Locker.keepTick_fields (r : Locker) (classes : List (Option ClassEntry)) :
    (r.keepTick classes).state = r.state ∧ (r.keepTick classes).phase = r.phase ∧
    (r.keepTick classes).order = r.order ∧ (r.keepTick classes).ready = r.ready ∧
    (r.keepTick classes).cycle = r.cycle ∧ (r.keepTick classes).temp = r.temp ∧
    (r.keepTick classes).doorOpen = r.doorOpen ∧ (r.keepTick classes).cold = r.cold ∧
    (r.keepTick classes).holdAge = r.holdAge ∧ (r.keepTick classes).retireReason = r.retireReason := by
  unfold Locker.keepTick
  repeat' split
  all_goals simp

theorem Locker.retiredFor_keep (r : Locker) (why : Option RetireReason) :
    (r.retiredFor why).keepOn = r.keepOn ∧ (r.retiredFor why).keepCount = r.keepCount := by
  cases why <;> simp [Locker.retiredFor, Locker.toRetired]

/-- R35: the class figures are those of the order. -/
theorem Locker.figures_congr {r q : Locker} (h : q.order = r.order) (classes : List (Option ClassEntry)) :
    q.figures classes = r.figures classes := by simp [Locker.figures, h]

/-- R37, R54: what a second tick leaves of a record. -/
@[simp] theorem Locker.secondTicked_fields (r : Locker) (classes : List (Option ClassEntry)) :
    (r.secondTicked classes).phase = r.phase ∧ (r.secondTicked classes).order = r.order ∧
    (r.secondTicked classes).ready = r.ready ∧ (r.secondTicked classes).cycle = r.cycle ∧
    (r.secondTicked classes).temp = r.temp ∧ (r.secondTicked classes).doorOpen = r.doorOpen ∧
    (r.secondTicked classes).cold = (r.counted classes).cold ∧
    (r.secondTicked classes).holdAge = (r.counted classes).holdAge := by
  simp [Locker.secondTicked]

/-- R36: a record in neither HOLDING nor RELEASING does not count, and is not checked. -/
theorem Locker.secondTicked_other {r : Locker} {classes : List (Option ClassEntry)} (h : r.state ≠ .holding)
    (h' : r.state ≠ .releasing) : r.secondTicked classes = r.keepTick classes := by
  have hc : r.counted classes = r := by simp [Locker.counted, h, h']
  have hv : r.limitVerdict classes = none := by
    by_contra hn
    exact h (Locker.limitVerdict_holding hn)
  simp [Locker.secondTicked, hc, hv, Locker.retiredFor]

section
variable {r : Locker} {classes : List (Option ClassEntry)} {c : ClassEntry}

/-- R36: the counts of a HOLDING or RELEASING record. -/
theorem Locker.counted_of_holding (hc : r.figures classes = some c) (h : r.state = .holding ∨ r.state = .releasing) :
    (r.counted classes).holdAge = (if r.holdAge < c.longest * 60 then r.holdAge + 1 else r.holdAge) ∧
    (r.counted classes).cold = (if r.temp < c.floor ∧ r.cold < c.coldLimit then r.cold + 1 else r.cold) := by
  simp [Locker.counted, h, hc]

/-- R37: a RELEASING record is not checked. -/
theorem Locker.secondTicked_releasing (h : r.state = .releasing) : (r.secondTicked classes).state = .releasing := by
  have hv : (r.counted classes).limitVerdict classes = none := by
    by_contra hn
    simpa [h] using Locker.limitVerdict_holding hn
  simp [Locker.secondTicked, hv, Locker.retiredFor, h]

/-- R37: a HOLDING record is checked at its cold exposure, then at its hold age. -/
theorem Locker.secondTicked_holding (hc : r.figures classes = some c) (h : r.state = .holding) :
    if c.coldLimit ≤ (r.counted classes).cold then
      (r.secondTicked classes).state = .retired ∧ (r.secondTicked classes).retireReason = some .cold
    else if c.longest * 60 ≤ (r.counted classes).holdAge then
      (r.secondTicked classes).state = .retired ∧ (r.secondTicked classes).retireReason = some .expired
    else (r.secondTicked classes).state = .holding := by
  have hf : (r.counted classes).figures classes = some c := by rw [Locker.figures_congr (r := r) (by simp), hc]
  unfold Locker.secondTicked
  split
  next h1 => simp [Locker.limitVerdict, hf, h, h1, Locker.retiredFor, Locker.toRetired]
  next h1 =>
    split
    next h2 => simp [Locker.limitVerdict, hf, h, h1, h2, Locker.retiredFor, Locker.toRetired]
    next h2 => simp [Locker.limitVerdict, hf, h, h1, h2, Locker.retiredFor]

/-- R54: the keep cycle of a record in KEEP goes on in a state that may heat. -/
theorem Locker.keepTick_heats (hc : r.figures classes = some c) (hp : r.phase = .keep) (hh : r.state.heats = true) :
    ((r.keepTick classes).keepOn, (r.keepTick classes).keepCount) =
      if r.keepCount + 1 = (if r.keepOn then c.keepOn else c.keepOff) then (!r.keepOn, 0)
      else (r.keepOn, r.keepCount + 1) := by
  simp only [Locker.keepTick, hh, hp, hc, and_self, if_true]
  by_cases hn : r.keepCount + 1 = if r.keepOn then c.keepOn else c.keepOff
  · simp only [if_pos hn]
  · simp only [if_neg hn]

/-- R54: the keep cycle of a record in KEEP after a second tick, by the state in which R37 leaves the record. -/
theorem Locker.secondTicked_keep (r : Locker) (hc : r.figures classes = some c) (hp : r.phase = .keep) :
    ((r.secondTicked classes).state.heats = true →
      ((r.secondTicked classes).keepOn, (r.secondTicked classes).keepCount) =
        if r.keepCount + 1 = (if r.keepOn then c.keepOn else c.keepOff) then (!r.keepOn, 0)
        else (r.keepOn, r.keepCount + 1)) ∧
    ((r.secondTicked classes).state.heats = false →
      (r.secondTicked classes).keepOn = r.keepOn ∧ (r.secondTicked classes).keepCount = r.keepCount) := by
  obtain ⟨p, hpe⟩ : ∃ p, p = (r.counted classes).retiredFor ((r.counted classes).limitVerdict classes) := ⟨_, rfl⟩
  have hkeep : p.keepOn = r.keepOn ∧ p.keepCount = r.keepCount := by simp [hpe, Locker.retiredFor_keep]
  have hfig : p.figures classes = some c := by rw [Locker.figures_congr (r := r) (by simp [hpe]), hc]
  simp only [Locker.secondTicked, ← hpe, Locker.keepTick_fields]
  refine ⟨fun hh => ?_, fun hh => ?_⟩
  · rw [Locker.keepTick_heats hfig (by simp [hpe, hp]) hh, hkeep.1, hkeep.2]
  · simpa [Locker.keepTick, hh] using hkeep

/-- R53: a record that was in KEEP keeps its keep cycle through a recomputation. -/
theorem Locker.recomputed_of_keep (hp : r.phase = .keep) (clock : Option Nat) (commission : Bool) :
    (r.recomputed classes clock commission).keepOn = r.keepOn ∧
    (r.recomputed classes clock commission).keepCount = r.keepCount := by
  change (r.judgePhase classes).keepOn = r.keepOn ∧ (r.judgePhase classes).keepCount = r.keepCount
  unfold Locker.judgePhase
  repeat' split
  all_goals simp_all

end

/-- The states in which the keep cycle goes on (R54). -/
theorem LockerState.heats_iff (x : LockerState) :
    x.heats = true ↔ x = .reserved ∨ x = .holding ∨ x = .releasing := by cases x <;> simp [LockerState.heats]

/-- R36, R37, R49, R54: a record once a second tick is over. -/
theorem State.secondTicked_recomputeAll_locker? {s : State} {i : Nat} {r : Locker} (h : s.locker? i = some r) :
    s.secondTicked.recomputeAll.locker? i =
      some ((r.secondTicked s.time.classes).recomputed s.time.classes s.time.clock s.straps.commission) := by
  obtain ⟨htime, hstraps, -, -⟩ := s.secondTicked_frame
  simp [State.secondTicked_locker? h, htime, hstraps, Timebase.secondTick]

/-- Settles O33: the counts, the checks and the keep cycle at each record, and the recomputation that follows them. -/
theorem secondTickCountsAndRetires : Obligations.SecondTickCountsAndRetires := by
  constructor
  · intro s
    obtain ⟨htime, -, -, hcount⟩ := s.secondTicked_frame
    have hside : s.TickSide s.secondTicked := s.tickSide_secondChecked
    refine ⟨_, execSecondTick_ticked s, ?_, hside.recomputeAll, by simpa using hcount, fun i r hr => ?_⟩
    · simp only [State.recomputeAll_frame, htime]
      rfl
    have hre := State.recomputed_recomputeAll (State.secondTicked_locker? hr)
    simp only [Locker.secondTicked_fields] at hre
    refine ⟨_, State.secondTicked_recomputeAll_locker? hr, by simp, by simp, by simp, by simp, by simp, hre,
      fun h1 h2 => ?_, fun c hc hs => ?_⟩
    · simp [Locker.secondTicked_other h1 h2]
    · obtain ⟨hage, hcold⟩ := Locker.counted_of_holding hc hs
      refine ⟨by simpa using hage, by simpa using hcold, fun h => ?_, fun h => ?_⟩
      · simpa using Locker.secondTicked_releasing h
      · simpa using Locker.secondTicked_holding hc h
  · intro s i r c hr hp hc
    have hq := State.secondTicked_recomputeAll_locker? hr
    obtain ⟨hon, hcount⟩ := Locker.recomputed_of_keep (r := r.secondTicked s.time.classes)
      (classes := s.time.classes) (by simp [hp]) s.time.clock s.straps.commission
    obtain ⟨hgo, hstand⟩ := r.secondTicked_keep hc hp
    refine ⟨_, _, execSecondTick_ticked s, hq, fun h => ?_, fun h => ?_, s.secondTicked.recomputeAll_off_list hq⟩
    · rw [hon, hcount]
      exact hgo ((LockerState.heats_iff _).mpr (by simpa using h))
    · rw [hon, hcount]
      refine hstand (Bool.eq_false_iff.mpr fun hh => h ?_)
      simpa using (LockerState.heats_iff _).mp hh

/-! ### The minute tick (R44 to R46) -/

/-- The state of a minute tick before the levels are recomputed. -/
def State.minuteTicked (s : State) : State := (s.withTime s.time.minuteTick).forEach State.judgeMinute

theorem execMinuteTick_ticked (s : State) : execMinuteTick s = .next s.minuteTicked.recomputeAll := rfl

theorem State.minuteTicked_frame (s : State) :
    s.minuteTicked.time = s.time.minuteTick ∧ s.minuteTicked.straps = s.straps ∧ s.minuteTicked.count = s.count ∧
    s.TickSide s.minuteTicked :=
  State.forEach_keeps (P := fun t => t.time = s.time.minuteTick ∧ t.straps = s.straps ∧ t.count = s.count ∧
    s.TickSide t) ⟨rfl, rfl, rfl, rfl⟩ fun t i _ ⟨htime, hstraps, hcount, hside⟩ =>
      ⟨by simpa using htime, by simpa using hstraps, by simpa using hcount, hside.judgeMinute i⟩

theorem State.minuteTicked_locker? {s : State} {i : Nat} {r : Locker} (h : s.locker? i = some r) :
    s.minuteTicked.locker? i = some (r.minuteJudged s.time.classes s.time.minuteTick.clock) := by
  have hl := State.forEach_locker? (s := s.withTime s.time.minuteTick) (P := fun t => t.time = s.time.minuteTick)
    (f := State.judgeMinute) (g := fun r => r.minuteJudged s.time.classes s.time.minuteTick.clock) rfl
    (fun t i ht => by simpa using ht) (fun t i j ht => by rw [State.judgeMinute_locker?, ht]; rfl) i
  have hr : (s.withTime s.time.minuteTick).locker? i = some r := h
  rw [State.minuteTicked, hl, hr, Option.map_some]

/-- R45, R46, R49: a record once a minute tick is over. -/
theorem State.minuteTicked_recomputeAll_locker? {s : State} {i : Nat} {r : Locker} (h : s.locker? i = some r) :
    s.minuteTicked.recomputeAll.locker? i = some ((r.minuteJudged s.time.classes s.time.minuteTick.clock).recomputed
      s.time.classes s.time.minuteTick.clock s.straps.commission) := by
  obtain ⟨htime, hstraps, -, -⟩ := s.minuteTicked_frame
  rw [State.recomputeAll_locker?, State.minuteTicked_locker? h, htime, hstraps]
  rfl

/-- R45, R46: a minute tick lapses a RESERVED record, expires a HOLDING one, or leaves the record. -/
theorem Locker.minuteJudged_cases (r : Locker) (classes : List (Option ClassEntry)) (clock : Option Nat) :
    (∃ o now, r.state = .reserved ∧ r.order = some o ∧ clock = some now ∧ DueAt now o.collectBy ∧
      r.minuteJudged classes clock = r.toVacant) ∨
    (∃ o c now, r.state = .holding ∧ r.order = some o ∧ r.figures classes = some c ∧ clock = some now ∧
      DueAt now ((o.collectBy + c.grace) % 1440) ∧ r.minuteJudged classes clock = r.toRetired .expired) ∨
    (r.minuteJudged classes clock = r ∧
      (∀ o now, r.state = .reserved → r.order = some o → clock = some now → ¬ DueAt now o.collectBy) ∧
      ∀ o c now, r.state = .holding → r.order = some o → r.figures classes = some c → clock = some now →
        ¬ DueAt now ((o.collectBy + c.grace) % 1440)) := by
  cases ho : r.order with
  | none => exact .inr (.inr ⟨by simp [Locker.minuteJudged, ho], by simp, by simp⟩)
  | some o =>
    cases hst : r.state
    case reserved =>
      by_cases hd : isDue clock o.collectBy = true
      · obtain ⟨now, hnow, hdue⟩ := (isDue_iff ..).mp hd
        exact .inl ⟨o, now, rfl, rfl, hnow, hdue, by simp [Locker.minuteJudged, ho, hst, hd]⟩
      · refine .inr (.inr ⟨by simp [Locker.minuteJudged, ho, hst, hd], fun p now _ hp hnow hdue => hd ?_, by simp⟩)
        obtain rfl := Option.some.inj hp
        exact (isDue_iff ..).mpr ⟨now, hnow, hdue⟩
    case holding =>
      cases hc : r.figures classes with
      | none => exact .inr (.inr ⟨by simp [Locker.minuteJudged, ho, hst, hc], by simp, by simp⟩)
      | some c =>
        by_cases hd : isDue clock (expiryMinute o c) = true
        · obtain ⟨now, hnow, hdue⟩ := (isDue_iff ..).mp hd
          exact .inr (.inl ⟨o, c, now, rfl, rfl, rfl, hnow, hdue, by simp [Locker.minuteJudged, ho, hst, hc, hd]⟩)
        · refine .inr (.inr ⟨by simp [Locker.minuteJudged, ho, hst, hc, hd], by simp,
            fun p e now _ hp he hnow hdue => hd ?_⟩)
          obtain rfl := Option.some.inj hp
          obtain rfl := Option.some.inj he
          exact (isDue_iff ..).mpr ⟨now, hnow, hdue⟩
    all_goals exact .inr (.inr ⟨by simp [Locker.minuteJudged, ho, hst], by simp, by simp⟩)

/-- Settles O34: the three cases of a record at a minute tick, and the recomputation that follows them. -/
theorem minuteTickLapsesAndExpires : Obligations.MinuteTickLapsesAndExpires := by
  intro s
  obtain ⟨htime, -, hcount, hside⟩ := s.minuteTicked_frame
  have hclock : s.minuteTicked.recomputeAll.time.clock = s.time.minuteTick.clock := by
    simp only [State.recomputeAll_frame, htime]
  refine ⟨_, execMinuteTick_ticked s, ?_, hside.recomputeAll, by simpa using hcount, fun i r hr => ?_⟩
  · simp only [State.recomputeAll_frame, htime]
    rfl
  have hq := State.minuteTicked_recomputeAll_locker? hr
  have hre := State.recomputed_recomputeAll (State.minuteTicked_locker? hr)
  rw [hclock]
  rcases r.minuteJudged_cases s.time.classes s.time.minuteTick.clock with
    ⟨o, now, hst, ho, hnow, hdue, hj⟩ | ⟨o, c, now, hst, ho, hc, hnow, hdue, hj⟩ | ⟨hj, hres, hhold⟩ <;>
    rw [hj] at hq hre
  · refine ⟨_, hq, by simp [Locker.toVacant], by simp [Locker.toVacant], by simpa [hst, Locker.toVacant] using hre,
      fun _ _ _ _ _ _ => ⟨by simp [Locker.toVacant], by simp [Locker.toVacant], ?_⟩, by simp [hst], fun h => ?_⟩
    · rw [Locker.recomputed_cold (by simp [Locker.toVacant, LockerState.heats])]
      rfl
    · rcases h with h | ⟨h, -⟩ | ⟨p, m, -, hp, hm, hd⟩ | ⟨-, -, -, h, -⟩
      · simp [hnow] at h
      · exact absurd hst h
      · obtain rfl := Option.some.inj (ho.symm.trans hp)
        obtain rfl := Option.some.inj (hnow.symm.trans hm)
        exact absurd hdue hd
      · simp [hst] at h
  · refine ⟨_, hq, by simp [Locker.toRetired], by simp [Locker.toRetired], by simpa [hst, Locker.toRetired] using hre,
      by simp [hst], fun _ _ _ _ _ _ _ _ => by simp [Locker.toRetired], fun h => ?_⟩
    rcases h with h | ⟨-, h⟩ | ⟨-, -, h, -⟩ | ⟨p, e, m, -, hp, he, hm, hd⟩
    · simp [hnow] at h
    · exact absurd hst h
    · simp [hst] at h
    · obtain rfl := Option.some.inj (ho.symm.trans hp)
      obtain rfl := Option.some.inj (hc.symm.trans he)
      obtain rfl := Option.some.inj (hnow.symm.trans hm)
      exact absurd hdue hd
  · refine ⟨_, hq, by simp, by simp, ?_, fun o now h1 h2 h3 h4 => absurd h4 (hres o now h1 h2 h3),
      fun o c now h1 h2 h3 h4 h5 => absurd h5 (hhold o c now h1 h2 h3 h4), fun _ => by simp⟩
    rwa [if_neg (by simp +contextual)]

/-! ### The notices of a tick (R47) -/

/-- R37: the check queues the notice of its verdict. -/
theorem State.checkLimits_line (s : State) (i : Nat) : (s.checkLimits i).line =
    ((s.locker? i).bind fun r => (r.limitVerdict s.time.classes).map (r.retireNotice i)).elim s.line
      s.line.pushNotice := by
  cases h : s.locker? i with
  | none => simp [State.checkLimits, h]
  | some r => rw [State.checkLimits_eq h, State.retire_elim_line h, Option.bind_some]

/-- R45, R46: the notice of a record at a minute tick. -/
def Locker.minuteNotice (classes : List (Option ClassEntry)) (clock : Option Nat) (i : Nat) (r : Locker) :
    Option NoticeFrame :=
  if r.state = .reserved ∧ (r.minuteJudged classes clock).state = .vacant then
    some ⟨i, .lapsed, .none, r.orderNumber, false⟩
  else if r.state = .holding ∧ (r.minuteJudged classes clock).state = .retired then
    some (r.retireNotice i .expired)
  else none

/-- R47: a record that a minute tick leaves brings no notice. -/
theorem Locker.minuteNotice_of_left {r : Locker} {classes : List (Option ClassEntry)} {clock : Option Nat}
    (h : r.minuteJudged classes clock = r) (i : Nat) : Locker.minuteNotice classes clock i r = none := by
  simp only [Locker.minuteNotice, h]
  cases r.state <;> simp

/-- R45: the notice of a lapse, R46: that of an expiry, and no other. -/
theorem State.judgeMinute_line (s : State) (i : Nat) : (s.judgeMinute i).line =
    ((s.locker? i).bind (Locker.minuteNotice s.time.classes s.time.clock i)).elim s.line s.line.pushNotice := by
  cases h : s.locker? i with
  | none => simp [State.judgeMinute, h]
  | some r =>
    cases ho : r.order with
    | none =>
      have hj : r.minuteJudged s.time.classes s.time.clock = r := by simp [Locker.minuteJudged, ho]
      simp [State.judgeMinute, h, ho, Locker.minuteNotice_of_left hj]
    | some o =>
      cases hst : r.state
      case reserved =>
        by_cases hd : isDue s.time.clock o.collectBy = true <;>
          simp [State.judgeMinute, Locker.minuteNotice, Locker.minuteJudged, Locker.orderNumber, Locker.toVacant, h, ho,
            hst, hd]
      case holding =>
        cases hc : r.figures s.time.classes with
        | none => simp [State.judgeMinute, Locker.minuteNotice, Locker.minuteJudged, h, ho, hst, hc]
        | some c =>
          by_cases hd : isDue s.time.clock (expiryMinute o c) = true <;>
            simp [State.judgeMinute, Locker.minuteNotice, Locker.minuteJudged, Locker.toRetired, Locker.retireNotice,
              State.retire_line h, h, ho, hst, hc, hd]
      all_goals simp [State.judgeMinute, Locker.minuteNotice, h, ho, hst]

/-- R37: the line once a second tick is over. -/
theorem State.secondTicked_line (s : State) : s.secondTicked.line = (s.indices.filterMap fun i =>
    (s.locker? i).bind fun r => ((r.counted s.time.classes).limitVerdict s.time.classes).map (r.retireNotice i)).foldl
      Line.pushNotice s.line := by
  have hline := State.forEach_line (s := s.secondCounted) (P := fun t => t.time = s.time.secondTick)
    (f := State.checkLimits) (g := fun r => r.retiredFor (r.limitVerdict s.time.classes))
    (n := fun i r => (r.limitVerdict s.time.classes).map (r.retireNotice i)) rfl
    (fun t i ht => by simpa using ht) (fun t i j ht => by rw [State.checkLimits_locker?, ht]; rfl)
    (fun t i ht => by rw [State.checkLimits_line, ht]; rfl)
  have hcounted : ∀ i, s.secondCounted.locker? i = (s.locker? i).map fun r => r.counted s.time.classes :=
    State.withLockers_map_locker? (s.withTime s.time.secondTick) fun r => r.counted s.time.classes
  have hindices : s.secondCounted.indices = s.indices := by simp [State.indices, State.count, State.secondCounted]
  have hnotice : ∀ (r : Locker) i, (r.counted s.time.classes).retireNotice i = r.retireNotice i := by
    intro r i
    funext why
    simp [Locker.retireNotice, Locker.orderNumber]
  change (s.secondCounted.forEach State.checkLimits).line = _
  rw [hline, hindices]
  simp only [hcounted, Option.bind_map, Function.comp_def, hnotice]
  rfl

/-- R45, R46: the line once a minute tick is over. -/
theorem State.minuteTicked_line (s : State) : s.minuteTicked.line = (s.indices.filterMap fun i =>
    (s.locker? i).bind (Locker.minuteNotice s.time.classes s.time.minuteTick.clock i)).foldl
      Line.pushNotice s.line :=
  State.forEach_line (s := s.withTime s.time.minuteTick) (P := fun t => t.time = s.time.minuteTick)
    (f := State.judgeMinute) (g := fun r => r.minuteJudged s.time.classes s.time.minuteTick.clock)
    (n := Locker.minuteNotice s.time.classes s.time.minuteTick.clock) rfl (fun t i ht => by simpa using ht)
    (fun t i j ht => by rw [State.judgeMinute_locker?, ht]; rfl) (fun t i ht => by rw [State.judgeMinute_line, ht]; rfl)

/-- Settles O35: each tick queues one notice for each record that it changes, as the records are taken in order. -/
theorem tickNoticesInIndexOrder : Obligations.TickNoticesInIndexOrder := by
  constructor
  · intro s
    refine ⟨_, execSecondTick_ticked s, ?_⟩
    simp only [State.recomputeAll_frame, s.secondTicked_line]
    congr 1
    refine List.filterMap_congr fun i hi => ?_
    obtain ⟨r, hr⟩ := State.locker?_of_mem_indices hi
    rw [State.secondTicked_recomputeAll_locker? hr, hr]
    cases hv : (r.counted s.time.classes).limitVerdict s.time.classes with
    | none => simp +contextual [Locker.secondTicked, hv, Locker.retiredFor]
    | some why =>
      have hh : (r.counted s.time.classes).state = .holding := Locker.limitVerdict_holding (by rw [hv]; simp)
      simp only [Locker.counted_fields] at hh
      simp [Locker.secondTicked, hv, Locker.retiredFor, Locker.toRetired, hh, Locker.retireNotice]
  · intro s
    refine ⟨_, execMinuteTick_ticked s, ?_⟩
    simp only [State.recomputeAll_frame, s.minuteTicked_line]
    congr 1
    refine List.filterMap_congr fun i hi => ?_
    obtain ⟨r, hr⟩ := State.locker?_of_mem_indices hi
    rw [State.minuteTicked_recomputeAll_locker? hr, hr]
    simp [Locker.minuteNotice, Locker.retireNotice]

end Sys2Proof.Machine
end

section
/-! PROOFS. RESTART, CLASS and the end of a class write (O58). -/

namespace Sys2Proof.Machine

/-! ### Verbs that COMMISSION does not refuse -/

/-- R149: the processor can take the command. -/
theorem State.Takes.canTake {s : State} {c : CommandFrame} {rest : List CommandFrame} (h : s.Takes c rest) :
    s.canTake = true := by simp [State.canTake, h.2.1, Config.replyCapacity, h.2.2]

/-- R149, R150: a verb that the processor takes: its rule is applied to the state without the command, and answered. -/
theorem State.takeVerb_taken {s : State} {c : CommandFrame} {rest : List CommandFrame} (h : s.Takes c rest)
    {isVerb : CommandFrame → Bool} (hv : isVerb c = true) (rule : CommandFrame → State → State × Answer) :
    s.takeVerb isVerb rule = (rule c (s.taken rest)).1.answer c (rule c (s.taken rest)).2 := by
  simp only [State.takeVerb, h.1, h.canTake, hv, Bool.and_self, if_true]
  rfl

/-- R129, R143: replies are discarded on arrival. -/
theorem Line.mute_iff (l : Line) : l.mute = true ↔ l.inStep = false ∨ l.listenOnly = true := by simp [Line.mute]

/-- R130: a reply joins the tail of the list while the station is in step, not listen-only, and the list has room. -/
theorem State.handReply_joins {s : State} (hin : s.line.inStep = true) (hlis : s.line.listenOnly = false)
    (hroom : s.line.replies.length < 4) (f : ReplyFrame) :
    s.handReply f = s.withLine { s.line with replies := s.line.replies ++ [⟨f, 0⟩] } := by
  rcases s.handReply_cases f with ⟨-, -, h⟩ | ⟨hno, -⟩
  · exact h
  · simp [Line.mute_iff, hin, hlis, Config.replyCapacity, Nat.not_le.mpr hroom] at hno

/-- R130, R143: any other reply is discarded on arrival, and reported. -/
theorem State.handReply_reports {s : State} (h : s.line.inStep = false ∨ s.line.listenOnly = true ∨
    4 ≤ s.line.replies.length) (f : ReplyFrame) : s.handReply f = s.reportReply f := by
  rw [State.handReply, if_pos]
  rwa [Line.mute_iff, or_assoc]

/-- R130, R143: while the processor is not RESTARTING, a reply joins the list or is gone. -/
theorem State.handReply_of_free {s : State} (hfree : s.cip.proc = .free) (f : ReplyFrame) :
    s.handReply f = s.withLine { s.line with replies :=
      if s.line.inStep = false ∨ s.line.listenOnly = true ∨ 4 ≤ s.line.replies.length then s.line.replies
      else s.line.replies ++ [⟨f, 0⟩] } := by
  split
  next h =>
    rw [State.handReply_reports h]
    simp only [State.reportReply, hfree, reduceCtorEq, false_and, if_false]
    rfl
  next h =>
    simp only [not_or, Bool.not_eq_false, Bool.not_eq_true, Nat.not_le] at h
    exact State.handReply_joins h.1 h.2.1 h.2.2 f

/-! ### RESTART (R158) -/

/-- R158: the state in which a RESTART is answered. -/
def State.restarting (s : State) (rest : List CommandFrame) : State := s.withCip ⟨rest, .restarting⟩

theorem execRestart_own {s : State} {c : CommandFrame} {rest : List CommandFrame} (h : s.Takes c rest)
    (hv : c.verb = 8) (hd : c.dest ≠ 31) : execRestart s =
      .next ((s.restarting rest).handReply ⟨c.src, 8, .accept, .none, 0, 0, zeroData⟩) := by
  rw [execRestart, State.takeVerb_taken h (by simp [CommandFrame.isVerb, hv, verbRestart])]
  simp only [State.answer, if_neg hd, hv]
  rfl

theorem execRestart_all {s : State} {c : CommandFrame} {rest : List CommandFrame} (h : s.Takes c rest)
    (hv : c.verb = 8) (hd : c.dest = 31) : execRestart s = .next (s.restarting rest).warmRestart := by
  rw [execRestart, State.takeVerb_taken h (by simp [CommandFrame.isVerb, hv, verbRestart])]
  simp only [State.answer, if_pos hd]
  rfl

/-! ### CLASS (R159, R189) -/

/-- R34, R159: the test of the figures. -/
theorem ClassEntry.inRange_iff (e : ClassEntry) : e.inRange = true ↔
    120 ≤ e.target ∧ e.target ≤ 190 ∧ 110 ≤ e.floor ∧ e.floor + 2 ≤ e.target ∧ 1 ≤ e.longest ∧ e.longest ≤ 240 ∧
      60 ≤ e.coldLimit ∧ e.coldLimit ≤ 1800 ∧ e.grace ≤ 60 ∧ 1 ≤ e.keepOn ∧ e.keepOn ≤ 30 ∧ 1 ≤ e.keepOff ∧
      e.keepOff ≤ 60 := by simp [ClassEntry.inRange]

/-- R159: a CLASS that the processor takes. -/
theorem State.takeClass_taken {s : State} {c : CommandFrame} {rest : List CommandFrame} (h : s.Takes c rest)
    (hv : c.verb = 9) : s.takeClass =
      if s.straps.commission = false then (s.taken rest).replied c (.refuse .notCommissioning 0 0)
      else if c.operand ≤ 7 ∧ c.figures.inRange = true then
        s.withCip ⟨rest, .writing ⟨c.operand, c.figures, c.src, c.dest, 0⟩⟩
      else (s.taken rest).replied c (.refuse .badValue 0 0) := by
  have hans := State.answer_eq (v := s.taken rest) (by simpa using h.2.1) (by simpa using h.2.2) c
  have hver : CommandFrame.isVerb verbClass c = true := by simp [CommandFrame.isVerb, hv, verbClass]
  simp only [State.takeClass, h.1, h.canTake, hver, Bool.and_self, if_true, ← hans, Bool.and_eq_true, decide_eq_true_eq,
    Bool.not_eq_true']
  rfl

/-- R159, R189: the state in which the end of a class write hands the owed reply. -/
def State.classWritten (s : State) (w : ClassWrite) : State :=
  (s.withTime (s.time.writeClass w)).withCip ⟨s.cip.inbox, .free⟩

theorem execClassWriteEnd_writing {s : State} {w : ClassWrite} (hw : s.cip.proc = .writing w) :
    execClassWriteEnd s = .next (if w.dest = 31 then s.classWritten w
      else (s.classWritten w).handReply ⟨w.src, 9, .accept, .none, 0, 0, zeroData⟩) := by
  simp only [execClassWriteEnd, hw]
  rfl

/-! ### The three rows -/

theorem restart_answers_or_restarts {s : State} {c : CommandFrame} {rest : List CommandFrame} (ht : s.Takes c rest)
    (hv : c.verb = 8) : ∃ t, Completes .restart s t ∧
      (c.dest ≠ 31 → s.line.inStep = true → s.line.listenOnly = false →
        s.Answered t c ⟨c.src, 8, .accept, .none, 0, 0, [0, 0, 0, 0, 0, 0, 0]⟩ ∧ t.cip = ⟨rest, .restarting⟩ ∧
        ({ t.line with replies := s.line.replies } : Line) = s.line ∧
        ({ t with cip := s.cip, line := s.line } : State) = s) ∧
      (c.dest = 31 ∨ s.line.inStep = false ∨ s.line.listenOnly = true → t = (s.restarting rest).warmRestart) := by
  by_cases hd : c.dest = 31
  · exact ⟨_, execRestart_all ht hv hd, fun h => absurd hd h, fun _ => rfl⟩
  have hexec := execRestart_own ht hv hd
  by_cases hs : s.line.inStep = true ∧ s.line.listenOnly = false
  · rw [State.handReply_joins (s := s.restarting rest) hs.1 hs.2 ht.2.2] at hexec
    refine ⟨_, hexec, fun _ _ _ => ⟨?_, rfl, rfl, rfl⟩, fun h => ?_⟩
    · simp [State.Answered, hd, hs, State.restarting, zeroData]
    · simp [hd, hs] at h
  · have hmute : s.line.inStep = false ∨ s.line.listenOnly = true := by simpa [imp_iff_not_or] using hs
    rw [State.handReply_reports (s := s.restarting rest) (hmute.imp_right .inl), State.reportReply,
      if_pos ⟨rfl, rfl⟩] at hexec
    exact ⟨_, hexec, fun _ h1 h2 => absurd ⟨h1, h2⟩ hs, fun _ => rfl⟩

/-- Settles O58: the reply to a RESTART joins the list, or its report restarts the part in the same action; a CLASS is
screened by COMMISSION and by its ranges; and the end of its write hands the owed reply. -/
theorem restartAndClassHoldProcessor : Obligations.RestartAndClassHoldProcessor := by
  refine ⟨fun s c rest ht hv => ?_, fun s c rest e ht hv he => ?_, fun s w hw => ?_⟩
  · obtain ⟨t, hexec, hans, hre⟩ := restart_answers_or_restarts ht hv
    exact ⟨t, hexec, hans, fun h => congrArg Host.Outcome.next (hre h).symm⟩
  · have he : c.figures = e := he.symm
    have hexec : execClassWrite s = .next s.takeClass := rfl
    rw [State.takeClass_taken ht hv] at hexec
    have hfree : (s.taken rest).cip.proc = .free := ht.2.1
    by_cases hcom : s.straps.commission = false
    · rw [if_pos hcom] at hexec
      exact ⟨_, hexec, rfl, rfl, rfl, fun _ => ⟨hfree, State.answered_replied hv _ rfl rfl rfl⟩, by simp [hcom]⟩
    · rw [if_neg hcom, he] at hexec
      simp only [← ClassEntry.inRange_iff]
      by_cases hr : c.operand ≤ 7 ∧ e.inRange = true
      · rw [if_pos hr] at hexec
        refine ⟨_, hexec, rfl, rfl, rfl, fun h => absurd h hcom, fun _ => ?_⟩
        rw [if_pos (by exact hr)]
        exact ⟨rfl, rfl⟩
      · rw [if_neg hr] at hexec
        refine ⟨_, hexec, rfl, rfl, rfl, fun h => absurd h hcom, fun _ => ?_⟩
        rw [if_neg (by exact hr)]
        exact ⟨hfree, State.answered_replied hv _ rfl rfl rfl⟩
  · have hexec := execClassWriteEnd_writing hw
    by_cases hd : w.dest = 31
    · rw [if_pos hd] at hexec
      refine ⟨_, hexec, rfl, rfl, ?_, rfl⟩
      rw [if_pos (.inl hd)]
      rfl
    · rw [if_neg hd, State.handReply_of_free (by rfl)] at hexec
      refine ⟨_, hexec, rfl, rfl, ?_, rfl⟩
      simp only [hd, false_or]
      rfl

end Sys2Proof.Machine
end

section
/-! PROOFS. The rows that fall due (O2). -/

namespace Sys2Proof.Machine

/-! ### The take of a command, an attempt and the step lock (R128, R134, R149) -/

/-- R149: the row by which the processor takes its oldest command. -/
theorem State.takeDue_iff (s : State) (x : List Instr) :
    (x = s.takeDue ∧ x ≠ []) ↔ ∃ c rest, s.Takes c rest ∧ x = [c.row] := by
  unfold State.takeDue
  cases hi : s.cip.inbox with
  | nil => simp [State.Takes, hi]
  | cons c rest =>
    simp only [eq_dueIf_iff, State.canTake, Bool.and_eq_true, beq_iff_eq, decide_eq_true_eq, State.Takes, hi]
    constructor
    · rintro ⟨hcan, hx⟩
      exact ⟨c, rest, ⟨rfl, hcan⟩, hx⟩
    · rintro ⟨d, more, ⟨hd, hcan⟩, hx⟩
      obtain ⟨rfl, -⟩ := List.cons.inj hd
      exact ⟨hcan, hx⟩

/-- R149, R126: each verb has its row. -/
theorem State.rowDue_row {s : State} {c : CommandFrame} {rest : List CommandFrame} (h : s.Takes c rest) :
    s.RowDue c.row := by
  obtain ⟨src, dest, verb, ops⟩ := c
  match verb with
  | 0 => exact ⟨_, rest, h, .inl rfl⟩
  | 1 | 2 | 3 | 4 | 5 | 7 | 8 | 9 => exact ⟨_, rest, h, rfl⟩
  | 6 =>
    by_cases ho : ops.getD 0 0 = 0
    · have hrow : CommandFrame.row ⟨src, dest, 6, ops⟩ = .queryBank := if_pos ho
      rw [hrow]
      exact ⟨_, rest, h, rfl, ho⟩
    · have hrow : CommandFrame.row ⟨src, dest, 6, ops⟩ = .query := if_neg ho
      rw [hrow]
      exact ⟨_, rest, h, rfl, ho⟩
  | n + 10 => exact ⟨_, rest, h, .inr (by simp)⟩

/-- R134: an attempt is due at its threshold, while no LINE_ACTIVE is owed. -/
theorem State.rowDue_attemptStart (s : State) : s.RowDue .attemptStart ↔ s.attemptDue = true := by
  have howed : s.activeOwed = false ↔ ∀ x ∈ s.owed, Instr.lineActive ∉ x := by
    rw [← Bool.not_eq_true, State.activeOwed_iff]
    simp
  rw [State.attemptDue_iff, howed]
  simp only [State.RowDue, State.maySend, State.threshold, State.own, Bool.and_eq_true, Bool.not_eq_true',
    Option.isNone_iff_eq_none]
  constructor
  · rintro ⟨k, gap, out, hnext, hin, hlis, hwire, hact, hx, hle⟩
    exact ⟨⟨⟨⟨hin, hlis⟩, hwire⟩, hact⟩, hx, k, gap, out, hnext, hle⟩
  · rintro ⟨⟨⟨⟨hin, hlis⟩, hwire⟩, hact⟩, hx, k, gap, out, hnext, hle⟩
    exact ⟨k, gap, out, hnext, hin, hlis, hwire, hact, hx, hle⟩

theorem State.rowDue_inStep (s : State) : s.RowDue .inStep ↔ s.line.inStepDue = true := by
  simp only [State.RowDue, Line.inStepDue, Bool.and_eq_true, Bool.not_eq_true', decide_eq_true_eq, and_assoc]
  rfl

/-! ### Timers (R12, R16, R166, R170, R173, R175, R178 to R180, R190) -/

/-- A strand of `dueIf` that is not empty. -/
theorem eq_dueIf_single (b : Bool) (c : Instr) (x : List Instr) : (x = dueIf b c ∧ x ≠ []) ↔ x = [c] ∧ b = true := by
  rw [eq_dueIf_iff, and_comm]

/-- R190: the changes of the power conditions that have settled. -/
theorem Timebase.mem_powerDue (t : Timebase) (x : List Instr) : (x ∈ t.powerDue ∧ x ≠ []) ↔
    (x = [.feederTripAsserted] ∧ t.feederTrip = false ∧ Elapsed t.tripSettle 1000) ∨
    (x = [.feederTripCleared] ∧ t.feederTrip = true ∧ Elapsed t.tripSettle 100000) ∨
    (x = [.supplyLowAsserted] ∧ t.supplyLow = false ∧ Elapsed t.supplySettle 200) ∨
    (x = [.supplyLowCleared] ∧ t.supplyLow = true ∧ Elapsed t.supplySettle 20000) := by
  simp only [Timebase.powerDue, List.mem_cons, List.not_mem_nil, or_false, or_and_right]
  cases t.feederTrip <;> cases t.supplyLow <;>
    simp only [Bool.false_eq_true, if_true, if_false, eq_dueIf_single, reached_iff, true_and, false_and, and_false,
      false_or, or_false, reduceCtorEq] <;> rfl

/-- R12, R16, R170: the rows of one locker whose timers have reached their times. -/
theorem mem_lockerDue (i : Nat) (r : Locker) (x : List Instr) : (x ∈ lockerDue i r ∧ x ≠ []) ↔
    (x = [.openWaitExpired i] ∧ r.cycle = .awaitOpen ∧ Elapsed r.openWait 200000) ∨
    (x = [.ajar i] ∧ r.ajarGiven = false ∧ Elapsed r.ajar 12000000) ∨
    (x = [.doorOpened i] ∧ r.swept = true ∧ r.doorOpen = false ∧ Elapsed r.doorSettle 5000) ∨
    (x = [.doorClosed i] ∧ r.swept = true ∧ r.doorOpen = true ∧ Elapsed r.doorSettle 5000) ∨
    (x = [.trayAppeared i] ∧ r.swept = true ∧ r.trayPresent = false ∧ Elapsed r.traySettle 5000) ∨
    (x = [.trayRemoved i] ∧ r.swept = true ∧ r.trayPresent = true ∧ Elapsed r.traySettle 5000) := by
  simp only [lockerDue, List.mem_cons, List.not_mem_nil, or_false, or_and_right, eq_dueIf_single, Bool.and_eq_true,
    reached_iff, beq_iff_eq, Bool.not_eq_true']
  cases r.doorOpen <;> cases r.trayPresent <;>
    simp only [Bool.false_eq_true, if_true, if_false, true_and, false_and, and_false, false_or, or_false,
      reduceCtorEq] <;> rfl

/-- R173: what the key scanner makes of the matrix. -/
theorem Keypad.scanDue_iff (k : Keypad) (keys : List Key) (x : List Instr) : (x = k.scanDue keys ∧ x ≠ []) ↔
    (∃ y, x = [Key.row y] ∧ k.scan = .up ∧ keys = [y] ∧ k.scanKey = some y ∧ Elapsed k.settle 2000) ∨
    (∃ y z, x = [.keyReject y z] ∧ ((k.scan = .up ∧ ∃ rest, keys = y :: z :: rest) ∨
      (k.scan = .down ∧ k.scanKey = some y ∧ keys.find? (fun w => w != y) = some z))) ∨
    (x = [.keysReleased] ∧ k.scan ≠ .up ∧ keys = [] ∧ Elapsed k.settle 2000) := by
  have hrel : (x = dueIf (reached k.settle Config.keySettleTime) .keysReleased ∧ x ≠ []) ↔
      x = [.keysReleased] ∧ Elapsed k.settle 2000 := by
    rw [eq_dueIf_single, reached_iff]
    rfl
  have hone : ∀ y z, (x = [.keyReject y z] ∧ x ≠ []) ↔ x = [.keyReject y z] := fun y z =>
    and_iff_left_of_imp fun h => by simp [h]
  unfold Keypad.scanDue
  cases hs : k.scan with
  | up =>
    match keys with
    | [] => simp
    | [y] =>
      have hkey : (x = dueIf (k.scanKey == some y && reached k.settle Config.keySettleTime) (Key.row y) ∧ x ≠ []) ↔
          x = [Key.row y] ∧ k.scanKey = some y ∧ Elapsed k.settle 2000 := by
        rw [eq_dueIf_single, Bool.and_eq_true, beq_iff_eq, reached_iff]
        rfl
      simpa using hkey
    | y :: z :: rest =>
      rw [hone]
      simp
  | down =>
    match keys with
    | [] => simpa using hrel
    | y :: rest =>
      dsimp only
      cases hk : k.scanKey with
      | none => simp
      | some w =>
        have hfind : (fun z => some z != some w) = fun z : Key => z != w := by
          funext z
          simp [bne]
        rw [hfind]
        have hne : y :: rest ≠ [] := by simp
        generalize y :: rest = l at hne
        cases hf : l.find? (fun z => z != w) with
        | none => simp +contextual [hne, hf]
        | some z =>
          dsimp only
          rw [hone]
          simp [hne, hf]
  | reject =>
    match keys with
    | [] => simpa using hrel
    | _ :: _ => simp

/-- R175, R178 to R180: the keypad's rows. -/
theorem Keypad.mem_due (k : Keypad) (keys : List Key) (x : List Instr) : (x ∈ k.due keys ∧ x ≠ []) ↔
    (x = k.scanDue keys ∧ x ≠ []) ∨
    (x = [.entryTimeout] ∧ Elapsed k.entryTimer 1000000) ∨
    (x = [.lockoutEnd] ∧ Elapsed k.lockout 3000000) ∨
    (x = [.beeperPatternEnd] ∧ ∃ b, k.beeper = some b ∧ b.pattern.length ≤ b.time) ∨
    (x = [.strikeAgedOut] ∧ ∃ n rest, k.strikes = n :: rest ∧ 6000000 ≤ n) := by
  simp only [Keypad.due, List.mem_cons, List.not_mem_nil, or_false, or_and_right, eq_dueIf_single, reached_iff]
  refine or_congr Iff.rfl (or_congr Iff.rfl (or_congr Iff.rfl (or_congr (and_congr_right fun _ => ?_)
    (and_congr_right fun _ => ?_))))
  · cases k.beeper <;> simp
  · cases k.strikes <;> simp [Config.strikeTime, Config.sec, Config.ticksPerMs]

/-! ### The table of the rows that are due -/

/-- The rows that are due, each alone, by where they come from. -/
theorem State.mem_due_iff (s : State) (x : List Instr) : x ∈ s.due ↔
    (∃ c rest, s.Takes c rest ∧ x = [c.row]) ∨ (x = [.attemptStart] ∧ s.attemptDue = true) ∨
    (x = [.inStep] ∧ s.line.inStepDue = true) ∨ (x ∈ s.time.powerDue ∧ x ≠ []) ∨
    (∃ r n, s.locker? (n + 1) = some r ∧ x ∈ lockerDue (n + 1) r ∧ x ≠ []) ∨
    (x = [.pulseEnded] ∧ ∃ p, s.latch.pulse = some p ∧ 30000 ≤ p.time) ∨
    (x ∈ s.keypad.due s.pins.keys ∧ x ≠ []) ∨ (∃ e ∈ s.book, x = [.windowEnd e.order] ∧ 40000 ≤ e.window) ∨
    (x = [.classWriteEnd] ∧ ∃ w, s.cip.proc = .writing w ∧ 2000 ≤ w.time) ∨
    (x = [.lampTestEnd] ∧ s.lamp.test = some 0) := by
  have hlatch : (x = s.latch.due ∧ x ≠ []) ↔ x = [.pulseEnded] ∧ ∃ p, s.latch.pulse = some p ∧ 30000 ≤ p.time := by
    rw [Latch.due, eq_dueIf_single]
    cases s.latch.pulse with
    | none => simp
    | some p =>
      simp only [decide_eq_true_eq, Option.some.injEq, exists_eq_left']
      rfl
  have hproc : (x = s.cip.proc.due ∧ x ≠ []) ↔
      x = [.classWriteEnd] ∧ ∃ w, s.cip.proc = .writing w ∧ 2000 ≤ w.time := by
    cases s.cip.proc with
    | writing w =>
      rw [Proc.due, eq_dueIf_single]
      simp only [decide_eq_true_eq, Proc.writing.injEq, exists_eq_left']
      rfl
    | free => simp [Proc.due]
    | restarting => simp [Proc.due]
  rw [State.mem_due, and_comm (a := x ≠ [])]
  simp only [or_and_right, State.takeDue_iff, eq_dueIf_single, hlatch, hproc, and_assoc,
    ← exists_and_right, decide_eq_true_eq, beq_iff_eq]
  rfl

/-- A row that is due stands in the table. -/
theorem State.rowDue_of_mem_due {s : State} {x : List Instr} (h : x ∈ s.due) : ∃ c, x = [c] ∧ s.RowDue c := by
  rcases (s.mem_due_iff x).mp h with ⟨c, rest, ht, rfl⟩ | ⟨rfl, hd⟩ | ⟨rfl, hd⟩ | hd | ⟨r, n, hr, hd⟩ | ⟨rfl, hd⟩ |
    hd | ⟨e, he, rfl, hd⟩ | ⟨rfl, hd⟩ | ⟨rfl, hd⟩
  · exact ⟨_, rfl, State.rowDue_row ht⟩
  · exact ⟨_, rfl, s.rowDue_attemptStart.mpr hd⟩
  · exact ⟨_, rfl, s.rowDue_inStep.mpr hd⟩
  · rcases (Timebase.mem_powerDue ..).mp hd with ⟨rfl, hp⟩ | ⟨rfl, hp⟩ | ⟨rfl, hp⟩ | ⟨rfl, hp⟩ <;> exact ⟨_, rfl, hp⟩
  · rcases (mem_lockerDue ..).mp hd with ⟨rfl, hp⟩ | ⟨rfl, hp⟩ | ⟨rfl, hp⟩ | ⟨rfl, hp⟩ | ⟨rfl, hp⟩ | ⟨rfl, hp⟩ <;>
      exact ⟨_, rfl, r, hr, hp⟩
  · exact ⟨_, rfl, hd⟩
  · rcases (Keypad.mem_due ..).mp hd with hk | ⟨rfl, hp⟩ | ⟨rfl, hp⟩ | ⟨rfl, b, hb, hp⟩ | ⟨rfl, hp⟩
    · rcases (Keypad.scanDue_iff ..).mp hk with ⟨y, rfl, hp⟩ | ⟨y, z, rfl, hp⟩ | ⟨rfl, hp⟩
      · cases y <;> exact ⟨_, rfl, hp⟩
      · exact ⟨_, rfl, hp⟩
      · exact ⟨_, rfl, hp⟩
    · exact ⟨_, rfl, hp⟩
    · exact ⟨_, rfl, hp⟩
    · refine ⟨_, rfl, b, hb, ?_⟩
      cases hpat : b.pattern <;> rw [hpat] at hp <;> exact hp
    · exact ⟨_, rfl, hp⟩
  · exact ⟨_, rfl, e, he, rfl, hd⟩
  · exact ⟨_, rfl, hd⟩
  · exact ⟨_, rfl, hd⟩

/-- R149: the row of the command that the processor may take is due. -/
theorem State.mem_due_of_takes {s : State} {c : CommandFrame} {rest : List CommandFrame} {row : Instr}
    (h : s.Takes c rest) (hrow : c.row = row) : [row] ∈ s.due :=
  (s.mem_due_iff _).mpr (.inl ⟨c, rest, h, by rw [hrow]⟩)

/-- R150: the row of a verb byte that names no verb. -/
theorem CommandFrame.row_unknown {c : CommandFrame} (h : c.verb = 0 ∨ 9 < c.verb) : c.row = .unknownVerb := by
  obtain ⟨src, dest, verb, ops⟩ := c
  match verb with
  | 0 => rfl
  | 1 | 2 | 3 | 4 | 5 | 6 | 7 | 8 | 9 => simp at h
  | n + 10 => rfl

/-- R12, R16, R170: a row of one locker is due. -/
theorem State.mem_due_of_locker {s : State} {i : Nat} {r : Locker} {x : List Instr} (h : s.locker? i = some r)
    (hx : x ∈ lockerDue i r ∧ x ≠ []) : x ∈ s.due := by
  have hi : i - 1 + 1 = i := by have := (State.locker?_eq_some h).1; omega
  exact (s.mem_due_iff x).mpr (.inr (.inr (.inr (.inr (.inl ⟨r, i - 1, by rwa [hi], by rwa [hi]⟩)))))

theorem State.mem_due_of_power {s : State} {x : List Instr} (hx : x ∈ s.time.powerDue ∧ x ≠ []) : x ∈ s.due :=
  (s.mem_due_iff x).mpr (.inr (.inr (.inr (.inl hx))))

theorem State.mem_due_of_keypad {s : State} {x : List Instr} (hx : x ∈ s.keypad.due s.pins.keys ∧ x ≠ []) :
    x ∈ s.due :=
  (s.mem_due_iff x).mpr (.inr (.inr (.inr (.inr (.inr (.inr (.inl hx)))))))

theorem State.mem_due_of_scan {s : State} {x : List Instr} (hx : x = s.keypad.scanDue s.pins.keys ∧ x ≠ []) :
    x ∈ s.due := State.mem_due_of_keypad ((Keypad.mem_due ..).mpr (.inl hx))

/-- A row of the table is due. -/
theorem State.mem_due_of_rowDue {s : State} {c : Instr} (h : s.RowDue c) : [c] ∈ s.due := by
  cases c
  case load | void | clear | block | unblock | lampTest | restart | classWrite =>
    obtain ⟨c, rest, ht, hv⟩ := h
    exact State.mem_due_of_takes ht (by simp [CommandFrame.row, hv])
  case query =>
    obtain ⟨c, rest, ht, hv, ho⟩ := h
    exact State.mem_due_of_takes ht (by simpa [CommandFrame.row, hv, CommandFrame.operand] using ho)
  case queryBank =>
    obtain ⟨c, rest, ht, hv, ho⟩ := h
    exact State.mem_due_of_takes ht (by simpa [CommandFrame.row, hv, CommandFrame.operand] using ho)
  case unknownVerb =>
    obtain ⟨c, rest, ht, hv⟩ := h
    exact State.mem_due_of_takes ht (CommandFrame.row_unknown hv)
  case attemptStart => exact (s.mem_due_iff _).mpr (.inr (.inl ⟨rfl, s.rowDue_attemptStart.mp h⟩))
  case inStep => exact (s.mem_due_iff _).mpr (.inr (.inr (.inl ⟨rfl, s.rowDue_inStep.mp h⟩)))
  case feederTripAsserted | feederTripCleared | supplyLowAsserted | supplyLowCleared =>
    exact State.mem_due_of_power ((Timebase.mem_powerDue ..).mpr (by simpa [State.RowDue] using h))
  case openWaitExpired | ajar | doorOpened | doorClosed | trayAppeared | trayRemoved =>
    obtain ⟨r, hr, hd⟩ := h
    exact State.mem_due_of_locker hr ((mem_lockerDue ..).mpr (by simpa using hd))
  case pulseEnded => exact (s.mem_due_iff _).mpr (.inr (.inr (.inr (.inr (.inr (.inl ⟨rfl, h⟩))))))
  case digitKey d => exact State.mem_due_of_scan ((Keypad.scanDue_iff ..).mpr (.inl ⟨.digit d, rfl, h⟩))
  case clearKey => exact State.mem_due_of_scan ((Keypad.scanDue_iff ..).mpr (.inl ⟨.clear, rfl, h⟩))
  case enterKey => exact State.mem_due_of_scan ((Keypad.scanDue_iff ..).mpr (.inl ⟨.enter, rfl, h⟩))
  case keyReject y z => exact State.mem_due_of_scan ((Keypad.scanDue_iff ..).mpr (.inr (.inl ⟨y, z, rfl, h⟩)))
  case keysReleased => exact State.mem_due_of_scan ((Keypad.scanDue_iff ..).mpr (.inr (.inr ⟨rfl, h⟩)))
  case entryTimeout => exact State.mem_due_of_keypad ((Keypad.mem_due ..).mpr (.inr (.inl ⟨rfl, h⟩)))
  case lockoutEnd => exact State.mem_due_of_keypad ((Keypad.mem_due ..).mpr (.inr (.inr (.inl ⟨rfl, h⟩))))
  case beeperPatternEnd =>
    obtain ⟨b, hb, hd⟩ := h
    refine State.mem_due_of_keypad ((Keypad.mem_due ..).mpr (.inr (.inr (.inr (.inl ⟨rfl, b, hb, ?_⟩)))))
    cases hpat : b.pattern <;> rw [hpat] at hd <;> exact hd
  case strikeAgedOut => exact State.mem_due_of_keypad ((Keypad.mem_due ..).mpr (.inr (.inr (.inr (.inr ⟨rfl, h⟩)))))
  case windowEnd n =>
    obtain ⟨e, he, rfl, hw⟩ := h
    exact (s.mem_due_iff _).mpr (.inr (.inr (.inr (.inr (.inr (.inr (.inr (.inl ⟨e, he, rfl, hw⟩))))))))
  case classWriteEnd =>
    exact (s.mem_due_iff _).mpr (.inr (.inr (.inr (.inr (.inr (.inr (.inr (.inr (.inl ⟨rfl, h⟩)))))))))
  case lampTestEnd =>
    exact (s.mem_due_iff _).mpr (.inr (.inr (.inr (.inr (.inr (.inr (.inr (.inr (.inr ⟨rfl, h⟩)))))))))
  all_goals exact h.elim

/-- R12 to R190: the strands that are due are the rows of the table, each alone. -/
theorem State.mem_due_rows (s : State) (x : List Instr) : x ∈ s.due ↔ ∃ c, x = [c] ∧ s.RowDue c := by
  constructor
  · exact State.rowDue_of_mem_due
  · rintro ⟨c, rfl, h⟩
    exact State.mem_due_of_rowDue h

end Sys2Proof.Machine
end

section
/-! PROOFS. One symbol time on the line (O2). -/

namespace Sys2Proof.Machine

/-! ### The parts of a symbol time act on the line as it was (R123, R127, R128, R135) -/

theorem Line.receive_rows_congr {l m : Line} (hin : m.inStep = l.inStep) (hrx : m.rx = l.rx) (hw : m.wire = l.wire)
    (own : Nat) (sym : Sym) : (m.receive own sym).2 = (l.receive own sym).2 := by
  unfold Line.receive
  rw [hin, hrx, hw]
  split <;> rfl

theorem Line.transmit_rows_congr {l m : Line} (hw : m.wire = l.wire) (sym : Sym) :
    (m.transmit sym).2 = (l.transmit sym).2 := by
  unfold Line.transmit
  rw [hw]
  cases l.wire with
  | none => rfl
  | some a =>
    dsimp only
    repeat' split
    all_goals rfl

/-- R123, R127, R135, R136: the rows of a symbol time. -/
theorem Line.symbolTime_rows (l : Line) (own : Nat) (sym : Sym) : (l.symbolTime own sym).2 =
    (l.monitor sym).2.1 ++ (l.receive own sym).2 ++ (l.transmit sym).2 ++ (l.monitor sym).2.2 := by
  have hr : (((l.monitor sym).1.stepLock sym).receive own sym).2 = (l.receive own sym).2 :=
    Line.receive_rows_congr (by simp) (by simp) (by simp) own sym
  have ht : ((((l.monitor sym).1.stepLock sym).receive own sym).1.transmit sym).2 = (l.transmit sym).2 := by
    refine Line.transmit_rows_congr ?_ sym
    rw [Line.receive_line]
    split <;> simp
  simp only [Line.symbolTime, hr, ht]

/-- R135, R136: the attempt on the wire after a symbol. -/
def Attempt.after (a : Attempt) (active : Bool) (sym : Sym) : Attempt :=
  if a.breaking then { a with settles := active && sym == .brk }
  else match a.symbols with
    | [] => a
    | sent :: rest => if sym = sent then { a with symbols := rest } else { a with breaking := true }

/-- R135, R136: the transmitter changes the attempt on the wire alone. -/
theorem Line.transmit_line (l : Line) (sym : Sym) :
    (l.transmit sym).1 = { l with wire := l.wire.map fun a => a.after l.active sym } := by
  have hleft : ∀ w, l.wire = w → l = { l with wire := w } := fun w h => congrArg (fun w => { l with wire := w }) h
  rcases l.transmit_cases sym with ⟨hw, h⟩ | ⟨a, hw, ⟨hb, h⟩ | ⟨hb, hs, h⟩ | ⟨sent, rest, hb, hs, ⟨he, h⟩ | ⟨he, h⟩⟩⟩
    <;> rw [h]
  · rw [hw]
    exact hleft _ hw
  · simp [hw, Attempt.after, hb]
  · have ha : a.after l.active sym = a := by simp [Attempt.after, hb, hs]
    rw [hw, Option.map_some, ha]
    exact hleft _ hw
  · simp [hw, Attempt.after, hb, hs, he]
  · simp [hw, Attempt.after, hb, hs, he]

/-- R127: what the monitor counts at a symbol. -/
theorem Line.monitor_line (l : Line) (sym : Sym) : (l.monitor sym).1 = { l with
    lastShut1 := decide (sym = .shut1)
    accessCount := if l.active = false ∧ sym = .quiet then l.accessCount + 1 else l.accessCount
    activityCount := if l.active = true then min 400 (l.activityCount + 1) else l.activityCount
    quietRun := if l.active = false then l.quietRun else if sym = .quiet then l.quietRun + 1 else 0 } := by
  unfold Line.monitor
  cases l.active with
  | true => simp [Config.jabberLimit, beq_eq_decide]
  | false =>
    by_cases hq : sym = .quiet
    · simp [hq]
    · simp [hq, beq_eq_decide]

/-- R128: what the step lock counts at a symbol. -/
theorem Line.stepLock_line (l : Line) (sym : Sym) : l.stepLock sym = { l with
    inStepCount := if l.inStep = true then l.inStepCount
      else if l.lineFault = true ∨ sym ≠ .quiet then 0 else min 32 (l.inStepCount + 1) } := by
  unfold Line.stepLock
  repeat' split
  all_goals rfl

/-- R123, R127, R128, R135, R136: the Line Interface after a symbol time. -/
theorem Line.symbolTime_line (l : Line) (own : Nat) (sym : Sym) : (l.symbolTime own sym).1 = { l with
    lastShut1 := decide (sym = .shut1)
    accessCount := if l.active = false ∧ sym = .quiet then l.accessCount + 1 else l.accessCount
    activityCount := if l.active = true then min 400 (l.activityCount + 1) else l.activityCount
    quietRun := if l.active = false then l.quietRun else if sym = .quiet then l.quietRun + 1 else 0
    inStepCount := if l.inStep = true then l.inStepCount
      else if l.lineFault = true ∨ sym ≠ .quiet then 0 else min 32 (l.inStepCount + 1)
    rx := if l.inStep = true then (rxStep l.rx sym l.wire.isSome).1 else l.rx
    wire := l.wire.map fun a => a.after l.active sym } := by
  simp only [Line.symbolTime, Line.transmit_line, Line.receive_line, Line.stepLock_line, Line.monitor_line]
  split <;> rfl

/-! ### The rows of a symbol time -/

/-- R127: the row with which a monitor becomes ACTIVE. -/
theorem Line.mem_monitor_start (l : Line) (sym : Sym) (c : Instr) :
    c ∈ (l.monitor sym).2.1 ↔ c = .lineActive ∧ l.active = false ∧ sym ≠ .quiet := by
  unfold Line.monitor
  cases l.active with
  | true => simp
  | false => by_cases hq : sym = .quiet <;> simp [hq]

/-- R127: a 400th symbol, and a symbol that settles the monitor. -/
theorem Line.mem_monitor_end (l : Line) (sym : Sym) (c : Instr) : c ∈ (l.monitor sym).2.2 ↔
    (c = .jabber ∧ l.active = true ∧ l.activityCount + 1 = 400) ∨
    (c = .lineSettled ∧ l.active = true ∧
      ((sym = .shut2 ∧ l.lastShut1 = true) ∨ sym = .brk ∨ (sym = .quiet ∧ 32 ≤ l.quietRun + 1))) := by
  have hset : l.settlesAt sym = true ↔
      (sym = .shut2 ∧ l.lastShut1 = true) ∨ sym = .brk ∨ (sym = .quiet ∧ 32 ≤ l.quietRun + 1) := by
    simp only [Line.settlesAt, Bool.or_eq_true, Bool.and_eq_true, beq_iff_eq, decide_eq_true_eq, or_assoc]
    rfl
  unfold Line.monitor
  cases l.active with
  | true =>
    simp only [if_true, List.mem_append, List.mem_ite_nil_right, List.mem_singleton, hset, and_comm, true_and]
    rfl
  | false => by_cases hq : sym = .quiet <;> simp [hq]

/-- R123, R124: the rows of the frame that a symbol ends. -/
theorem Line.mem_receive_rows (l : Line) (own : Nat) (sym : Sym) (c : Instr) : c ∈ (l.receive own sym).2 ↔
    l.inStep = true ∧ ((c = .frameDiscarded ∧ (rxStep l.rx sym l.wire.isSome).2 = .discarded) ∨
      ∃ nibbles echo, (rxStep l.rx sym l.wire.isSome).2 = .complete nibbles echo ∧
        ((c = .frameDiscarded ∧ judgeFrame own nibbles echo = .discarded) ∨
          (c = .addressClash ∧ judgeFrame own nibbles echo = .clash) ∨
          judgeFrame own nibbles echo = .delivered c)) := by
  unfold Line.receive
  cases l.inStep with
  | false => simp
  | true =>
    simp only [if_true, true_and]
    cases (rxStep l.rx sym l.wire.isSome).2 with
    | none => simp
    | discarded => simp
    | complete nibbles echo =>
      simp only [reduceCtorEq, and_false, false_or, RxEvent.complete.injEq, and_assoc, exists_and_left, exists_eq_left']
      cases judgeFrame own nibbles echo <;> simp [eq_comm]

/-- R135, R136: the rows of the attempt on the wire. -/
theorem Line.mem_transmit_rows (l : Line) (sym : Sym) (c : Instr) : c ∈ (l.transmit sym).2 ↔
    ∃ a, l.wire = some a ∧ ((c = .collision ∧ a.breaking = true) ∨
      (c = .transmissionComplete ∧ a.breaking = false ∧ a.symbols = [sym])) := by
  rcases l.transmit_cases sym with ⟨hw, h⟩ | ⟨a, hw, ⟨hb, h⟩ | ⟨hb, hs, h⟩ | ⟨sent, rest, hb, hs, ⟨he, h⟩ | ⟨he, h⟩⟩⟩
    <;> rw [h]
  · simp [hw]
  · simp [hw, hb]
  · simp [hw, hb, hs]
  · cases rest <;> simp [hw, hb, hs, he]
  · simp [hw, hb, hs, Ne.symm he]

/-- R127, R135, R136: the rows that the Line Interface brings of itself. -/
def Line.ownRows : List Instr := [.lineActive, .jabber, .lineSettled, .collision, .transmissionComplete]

/-- R125, R140: a frame of another station delivers none of them. -/
theorem deliveryOf_foreign {kind src dest : Nat} {body : List Nat} {c : Instr}
    (h : deliveryOf kind src dest body = some c) : c ∉ Line.ownRows := by
  unfold deliveryOf at h
  split at h
  all_goals simp at h
  all_goals simp [← h, Line.ownRows]

/-- R123, R124: a verdict delivers what the frame carries. -/
theorem judgeFrame_foreign {own : Nat} {nibbles : List Nibble} {echo : Bool} {c : Instr}
    (h : judgeFrame own nibbles echo = .delivered c) : c ∉ Line.ownRows := by
  unfold judgeFrame at h
  cases hb : checkedBytes nibbles with
  | none => simp [hb] at h
  | some front =>
    simp only [hb] at h
    repeat' split at h
    all_goals simp at h
    rename_i d hd
    exact h ▸ deliveryOf_foreign hd

theorem Line.notMem_receive_rows {c : Instr} (hc : c ∈ Line.ownRows) (l : Line) (own : Nat) (sym : Sym) :
    c ∉ (l.receive own sym).2 := by
  rw [Line.mem_receive_rows]
  rintro ⟨-, ⟨rfl, -⟩ | ⟨nibbles, echo, -, ⟨rfl, -⟩ | ⟨rfl, -⟩ | hj⟩⟩
  · simp [Line.ownRows] at hc
  · simp [Line.ownRows] at hc
  · simp [Line.ownRows] at hc
  · exact judgeFrame_foreign hj hc

theorem Line.mem_symbolTime_rows (l : Line) (own : Nat) (sym : Sym) (c : Instr) : c ∈ (l.symbolTime own sym).2 ↔
    (c = .lineActive ∧ l.active = false ∧ sym ≠ .quiet) ∨ c ∈ (l.receive own sym).2 ∨
    (∃ a, l.wire = some a ∧ ((c = .collision ∧ a.breaking = true) ∨
      (c = .transmissionComplete ∧ a.breaking = false ∧ a.symbols = [sym]))) ∨
    (c = .jabber ∧ l.active = true ∧ l.activityCount + 1 = 400) ∨
    (c = .lineSettled ∧ l.active = true ∧
      ((sym = .shut2 ∧ l.lastShut1 = true) ∨ sym = .brk ∨ (sym = .quiet ∧ 32 ≤ l.quietRun + 1))) := by
  rw [Line.symbolTime_rows]
  simp only [List.mem_append, Line.mem_monitor_start, Line.mem_monitor_end, Line.mem_transmit_rows, or_assoc]

section
variable (l : Line) (own : Nat) (sym : Sym)

theorem Line.lineActive_mem_rows : .lineActive ∈ (l.symbolTime own sym).2 ↔ l.active = false ∧ sym ≠ .quiet := by
  simp [Line.mem_symbolTime_rows, Line.notMem_receive_rows (c := .lineActive) (by simp [Line.ownRows])]

theorem Line.jabber_mem_rows :
    .jabber ∈ (l.symbolTime own sym).2 ↔ l.active = true ∧ l.activityCount + 1 = 400 := by
  simp [Line.mem_symbolTime_rows, Line.notMem_receive_rows (c := .jabber) (by simp [Line.ownRows])]

theorem Line.lineSettled_mem_rows : .lineSettled ∈ (l.symbolTime own sym).2 ↔ l.active = true ∧
    ((sym = .shut2 ∧ l.lastShut1 = true) ∨ sym = .brk ∨ (sym = .quiet ∧ 32 ≤ l.quietRun + 1)) := by
  simp [Line.mem_symbolTime_rows, Line.notMem_receive_rows (c := .lineSettled) (by simp [Line.ownRows])]

theorem Line.collision_mem_rows :
    .collision ∈ (l.symbolTime own sym).2 ↔ ∃ a, l.wire = some a ∧ a.breaking = true := by
  simp [Line.mem_symbolTime_rows, Line.notMem_receive_rows (c := .collision) (by simp [Line.ownRows])]

theorem Line.transmissionComplete_mem_rows : .transmissionComplete ∈ (l.symbolTime own sym).2 ↔
    ∃ a, l.wire = some a ∧ a.breaking = false ∧ a.symbols = [sym] := by
  simp [Line.mem_symbolTime_rows, Line.notMem_receive_rows (c := .transmissionComplete) (by simp [Line.ownRows])]

/-- R123, R124: every other row is the one of the frame that the symbol ends. -/
theorem Line.mem_rows_foreign {c : Instr} (h : c ∈ (l.symbolTime own sym).2) :
    c ∈ Line.ownRows ∨ c ∈ (l.receive own sym).2 := by
  rcases (l.mem_symbolTime_rows own sym c).mp h with ⟨rfl, -⟩ | h | ⟨a, -, ⟨rfl, -⟩ | ⟨rfl, -⟩⟩ | ⟨rfl, -⟩ | ⟨rfl, -⟩
  case inr.inl => exact .inr h
  all_goals exact .inl (by simp [Line.ownRows])

theorem Line.mem_rows_of_receive {c : Instr} (h : c ∈ (l.receive own sym).2) : c ∈ (l.symbolTime own sym).2 :=
  (l.mem_symbolTime_rows own sym c).mpr (.inr (.inl h))

end

end Sys2Proof.Machine
end

section
/-! PROOFS. The idle step (O2). -/

namespace Sys2Proof.Machine

/-! ### The rows that the cadences bring (R29, R62, R86, R183, R186) -/

/-- R186: the divider brings SECOND_TICK at 0 and FLASH_PHASE at half a second. -/
theorem Timebase.beat_iff (t : Timebase) (x : List Instr) : (x = t.beat ∧ x ≠ []) ↔
    (x = [.secondTick] ∧ t.divider = 0) ∨ (x = [.flashPhase] ∧ t.divider = 50000) := by
  unfold Timebase.beat
  by_cases h : t.divider = 0
  · have hs : (x = [Instr.secondTick] ∧ x ≠ []) ↔ x = [.secondTick] := and_iff_left_of_imp fun h => by simp [h]
    simp [h, hs]
  · rw [if_neg h, eq_dueIf_single, beq_iff_eq]
    simp only [h, and_false, false_or]
    rfl

/-- R27, R29: the row of a scan. -/
theorem scanStep_cases (i : Nat) (r : Locker) (p : LockerPins) :
    (r.swept = true ∧ scanStep i r p = .probeSample i p.probe) ∨
    (r.swept = false ∧ scanStep i r p = .firstSweepReading i p.doorOpen p.trayPresent p.probe) := by
  cases h : r.swept <;> simp [scanStep, h]

/-- The strands of the cadences are the rows of the table, each alone. -/
theorem State.mem_beats_rows (s : State) (x : List Instr) :
    (x ∈ s.beats ∧ x ≠ []) ↔ ∃ c, x = [c] ∧ s.RowOnBeat c := by
  rw [State.mem_beats]
  simp only [or_and_right, Timebase.beat_iff, eq_dueIf_single, ← exists_and_right, and_assoc,
    beq_iff_eq]
  constructor
  · rintro ((⟨rfl, h⟩ | ⟨rfl, h⟩) | ⟨rfl, h⟩ | ⟨rfl, h⟩ | ⟨rfl, h⟩ | ⟨r, n, hr, rfl, h⟩)
    · exact ⟨_, rfl, h⟩
    · exact ⟨_, rfl, h⟩
    · exact ⟨_, rfl, h⟩
    · exact ⟨_, rfl, h⟩
    · exact ⟨_, rfl, h⟩
    · have hscan : s.Scans (n + 1) r (s.pins.lockers.getD n ⟨r.doorOpen, r.trayPresent, 0⟩) := ⟨hr, h, rfl⟩
      refine ⟨_, rfl, ?_⟩
      rcases scanStep_cases (n + 1) r (s.pins.lockers.getD n ⟨r.doorOpen, r.trayPresent, 0⟩) with
        ⟨hs, hrow⟩ | ⟨hs, hrow⟩
      · rw [hrow]
        exact ⟨r, _, hscan, hs, rfl⟩
      · rw [hrow]
        exact ⟨r, hscan, hs⟩
  · rintro ⟨c, rfl, h⟩
    cases c
    case secondTick => exact .inl (.inl ⟨rfl, h⟩)
    case flashPhase => exact .inl (.inr ⟨rfl, h⟩)
    case shareTick => exact .inr (.inl ⟨rfl, h⟩)
    case grantRound => exact .inr (.inr (.inl ⟨rfl, h⟩))
    case lampFrame => exact .inr (.inr (.inr (.inl ⟨rfl, h⟩)))
    case probeSample i raw =>
      obtain ⟨r, p, ⟨hr, hat, hp⟩, hs, rfl⟩ := h
      obtain ⟨n, rfl⟩ : ∃ n, i = n + 1 := ⟨i - 1, by have := (State.locker?_eq_some hr).1; omega⟩
      refine .inr (.inr (.inr (.inr ⟨r, n, hr, ?_, hat⟩)))
      simp [scanStep, hs, hp]
    case firstSweepReading i door tray raw =>
      obtain ⟨r, ⟨hr, hat, hp⟩, hs⟩ := h
      obtain ⟨n, rfl⟩ : ∃ n, i = n + 1 := ⟨i - 1, by have := (State.locker?_eq_some hr).1; omega⟩
      refine .inr (.inr (.inr (.inr ⟨r, n, hr, ?_, hat⟩)))
      simp only [Nat.add_sub_cancel] at hp
      rw [← hp]
      simp [scanStep, hs]
    all_goals exact h.elim

/-! ### What 10 µs move -/

/-- R12, R16, R170: a record after a symbol time keeps all but its timers, and the settle timers follow its pins. -/
theorem State.tick_record {s : State} {i : Nat} {r : Locker} (h : s.locker? i = some r) :
    ∃ q, s.tick.locker? i = some q ∧
    ({ q with openWait := r.openWait, ajar := r.ajar, doorSettle := r.doorSettle, traySettle := r.traySettle } :
      Locker) = r ∧
    q.openWait = r.openWait.map (· + 1) ∧ q.ajar = r.ajar.map (· + 1) ∧
    ∀ p, s.pins.lockers[i - 1]? = some p →
      q.doorSettle = (if r.swept = true ∧ p.doorOpen ≠ r.doorOpen then some (r.doorSettle.getD 0 + 1) else none) ∧
      q.traySettle = (if r.swept = true ∧ p.trayPresent ≠ r.trayPresent then some (r.traySettle.getD 0 + 1)
        else none) := by
  refine ⟨r.tick (s.pins.lockers.getD (i - 1) ⟨r.doorOpen, r.trayPresent, 0⟩), by rw [State.tick_locker?, h]; rfl, rfl,
    rfl, rfl, fun p hp => ?_⟩
  rw [List.getD_eq_getElem?_getD, hp]
  simp [Locker.tick, settling]

/-- R173: what the key scanner makes of the matrix in a symbol time. -/
theorem Keypad.tick_scan (k : Keypad) (keys : List Key) :
    (k.scan = .up → ∀ x, keys = [x] → (k.tick keys).scanKey = some x ∧
      (k.tick keys).settle = if k.scanKey = some x then k.settle.map (· + 1) else some 1) ∧
    (k.scan = .up → (∀ x, keys ≠ [x]) → (k.tick keys).scanKey = none ∧ (k.tick keys).settle = none) ∧
    (k.scan ≠ .up → (k.tick keys).scanKey = k.scanKey ∧
      (k.tick keys).settle = if keys = [] then some (k.settle.getD 0 + 1) else none) := by
  refine ⟨fun hs x hk => ?_, fun hs hk => ?_, fun hs => ?_⟩
  · by_cases hx : k.scanKey = some x <;> simp [Keypad.tick, Keypad.scanTick, hs, hk, hx, bump]
  · match keys with
    | [] => simp [Keypad.tick, Keypad.scanTick, hs]
    | [x] => exact absurd rfl (hk x)
    | _ :: _ :: _ => simp [Keypad.tick, Keypad.scanTick, hs]
  · cases hk : k.scan
    case up => exact absurd hk hs
    all_goals cases keys <;> simp [Keypad.tick, Keypad.scanTick, hk]

/-- R175, R178 to R180: what else of the keypad moves. -/
theorem Keypad.tick_fields (k : Keypad) (keys : List Key) :
    (k.tick keys).scan = k.scan ∧ (k.tick keys).buffer = k.buffer ∧ (k.tick keys).overlong = k.overlong ∧
    (k.tick keys).entryTimer = k.entryTimer.map (· + 1) ∧ (k.tick keys).strikes = k.strikes.map (· + 1) ∧
    (k.tick keys).lockout = k.lockout.map (· + 1) ∧
    (k.tick keys).beeper = k.beeper.map fun b => { b with time := b.time + 1 } := by
  have hscan : ({ k.scanTick keys with scanKey := k.scanKey, settle := k.settle } : Keypad) = k := by
    unfold Keypad.scanTick
    repeat' split
    all_goals rfl
  exact ⟨(congrArg Keypad.scan hscan :), (congrArg Keypad.buffer hscan :), (congrArg Keypad.overlong hscan :),
    congrArg (fun k => k.entryTimer.map (· + 1)) hscan, congrArg (fun k => k.strikes.map (· + 1)) hscan,
    congrArg (fun k => k.lockout.map (· + 1)) hscan,
    congrArg (fun k => k.beeper.map fun b => { b with time := b.time + 1 }) hscan⟩

/-- R190: the power conditions' settle timers and the divider move alone. -/
theorem Timebase.tick_fields (t : Timebase) (p : Pins) :
    (t.tick p).tripSettle = (if p.feederTrip ≠ t.feederTrip then some (t.tripSettle.getD 0 + 1) else none) ∧
    (t.tick p).supplySettle = (if p.supplyLow ≠ t.supplyLow then some (t.supplySettle.getD 0 + 1) else none) ∧
    ({ t.tick p with divider := t.divider, tripSettle := t.tripSettle, supplySettle := t.supplySettle } : Timebase) =
      t := by
  simp [Timebase.tick, settling]

/-- The rows of the symbol are owed as one strand, and those of the cadences each alone. -/
theorem State.mem_tick_owed (s : State) (x : List Instr) : x ∈ s.tick.owed ↔
    (x = (s.line.symbolTime s.own s.readSymbol).2 ∧ x ≠ []) ∨ ∃ c, x = [c] ∧ s.tick.RowOnBeat c := by
  have howed : s.tick.owed =
      ((s.line.symbolTime s.own s.readSymbol).2 :: s.tick.beats).filter fun x => !x.isEmpty := rfl
  rw [howed, ← State.mem_beats_rows]
  simp only [List.mem_filter, List.mem_cons, or_and_right, Bool.not_eq_true', List.isEmpty_eq_false_iff]

/-- One strand of several is drawn from them. -/
theorem draw_lt (ties : Nat) {n : Nat} (h : 0 < n) : draw ties n < n := by
  unfold draw
  split
  · exact h
  · exact Nat.mod_lt _ h

/-- Settles O2: without a strand 10 µs pass, which the lemmas on the tick describe block by block; with strands, one
that is drawn is queued; and what is owed and due is the rows of the tables. -/
theorem idleStepRunsClockwork : Obligations.IdleStepRunsClockwork := by
  refine ⟨fun s hq => ⟨fun hs => ?_, fun hs => ?_⟩, fun l own sym m rows h => ?_, fun s => ⟨rfl, s.mem_due_rows⟩⟩
  · have hstep : step s = .next s.tick := by simp [step, hq, State.idle, hs]
    obtain ⟨hscan, hbuf, hlong, hentry, hstrikes, hlock, hbeep⟩ := s.keypad.tick_fields s.pins.keys
    obtain ⟨hone, hnone, hdown⟩ := s.keypad.tick_scan s.pins.keys
    refine ⟨s.tick, hstep, hq, rfl, rfl, rfl, rfl, s.tick_count, rfl, rfl, rfl, rfl, fun i r => State.tick_record,
      rfl, rfl, ⟨hscan, hbuf, hlong, hentry, hstrikes, hlock, hbeep, hone, hnone, hdown⟩, s.time.tick_fields s.pins, ?_,
      fun sym hsym => ?_⟩
    · cases hp : s.cip.proc <;> simp [State.tick, State.countTime, Proc.tick, hp]
    · obtain rfl : sym = s.readSymbol := hsym
      exact ⟨rfl, s.mem_tick_owed⟩
  · have hlen : 0 < s.strands.length := List.length_pos_of_ne_nil hs
    refine ⟨draw s.ties s.strands.length, s.queueStrand (draw s.ties s.strands.length), draw_lt _ hlen, ?_, rfl, rfl,
      ?_⟩
    · simp [step, hq, State.idle, hs]
    · rw [← hq]
      rfl
  · obtain ⟨rfl, rfl⟩ : m = (l.symbolTime own sym).1 ∧ rows = (l.symbolTime own sym).2 := by simp [← h]
    have hheard := fun c (hc : c ∈ (l.receive own sym).2) => l.mem_rows_of_receive own sym hc
    simp only [Line.mem_receive_rows] at hheard
    simp only [Line.symbolTime_line, Line.lineActive_mem_rows, Line.jabber_mem_rows, Line.lineSettled_mem_rows,
      Line.collision_mem_rows, Line.transmissionComplete_mem_rows, true_and]
    refine ⟨fun hin => by simp [hin], fun hin => ⟨by simp [hin], fun hd => hheard _ ⟨hin, .inl ⟨rfl, hd⟩⟩,
      fun nibbles echo hc => ⟨fun hj => hheard _ ⟨hin, .inr ⟨nibbles, echo, hc, .inl ⟨rfl, hj⟩⟩⟩,
        fun hj => hheard _ ⟨hin, .inr ⟨nibbles, echo, hc, .inr (.inl ⟨rfl, hj⟩)⟩⟩,
        fun c hj => hheard _ ⟨hin, .inr ⟨nibbles, echo, hc, .inr (.inr hj)⟩⟩⟩⟩,
      fun c hc => (l.mem_rows_foreign own sym hc).imp_right (l.mem_receive_rows own sym c).mp,
      fun hw => by simp [hw], fun a hw hb hs => ?_, fun a hw hb => ?_, fun a sent rest hw hb hs => ?_, trivial⟩
    · simp [hw, hb, hs, Attempt.after]
    · simp [hw, hb, Attempt.after, beq_eq_decide]
    · by_cases he : sym = sent
      · simp [hw, hb, hs, he, Attempt.after]
      · simp [hw, hb, hs, he, Ne.symm he, Attempt.after]

end Sys2Proof.Machine
end

section
/-! PROOFS. What a row may do to heat and power between grant rounds and share ticks: the relation `EbbsBut`. -/

namespace Sys2Proof.Machine

/-! ### The heat law, locker by locker (R50, R60, R66) -/

/-- R50: the level of a record, and whether a forcing condition applies to it. -/
def Locker.heat (r : Locker) (commission : Bool) : Nat × Bool := (r.level, r.forcedOff commission)

/-- The same of the record of a locker. -/
def State.heatAt (s : State) (j : Nat) : Option (Nat × Bool) := (s.locker? j).map fun r => r.heat s.straps.commission

/-- R50, R66: the record of a locker has level 0 where that is forced, and at level 0 it is not listed. -/
def State.HeatFits (s : State) (j : Nat) : Prop :=
  ∀ r, s.locker? j = some r → (r.forcedOff s.straps.commission = true → r.level = 0) ∧ (r.level = 0 → j ∉ s.grant.list)

theorem State.heatLaw_iff (s : State) : s.HeatLaw ↔
    (∀ j, s.HeatFits j) ∧ (∀ j ∈ s.grant.list, j ∈ s.indices) ∧ s.grant.list.Nodup := by
  constructor
  · rintro ⟨hf, hl, hn⟩
    refine ⟨fun j r hr => ⟨hf r (State.locker?_eq_some hr).2.2.2, fun h0 hj => ?_⟩, fun j hj => ?_, hn⟩
    · have := hl j hj
      rw [hr] at this
      exact this h0
    · have := hl j hj
      cases hr : s.locker? j with
      | none => simp [hr] at this
      | some r => exact State.mem_indices_of_locker? hr
  · rintro ⟨hf, hi, hn⟩
    refine ⟨fun r hr => ?_, fun j hj => ?_, hn⟩
    · obtain ⟨j, hj⟩ := State.mem_lockers_iff.mp hr
      exact (hf j r hj).1
    · obtain ⟨r, hr⟩ := State.locker?_of_mem_indices (hi j hj)
      rw [hr]
      exact fun h0 => (hf j r hr).2 h0 hj

/-- R1: index 0 names no record. -/
@[simp] theorem State.locker?_zero (s : State) : s.locker? 0 = none := by simp [State.locker?]

theorem State.heatFits_zero (s : State) : s.HeatFits 0 := fun r hr => by simp at hr

/-- A record that stands in heat fits as long as the list only loses entries. -/
theorem State.HeatFits.of_heatAt {s t : State} {j : Nat} (hl : t.grant.list.Sublist s.grant.list)
    (he : t.heatAt j = s.heatAt j) (h : s.HeatFits j) : t.HeatFits j := by
  intro q hq
  obtain ⟨r, hr, hrq⟩ : ∃ r, s.locker? j = some r ∧ r.heat s.straps.commission = q.heat t.straps.commission := by
    simpa [State.heatAt, hq] using he.symm
  obtain ⟨hlevel, hforced⟩ : r.level = q.level ∧ r.forcedOff s.straps.commission = q.forcedOff t.straps.commission :=
    Prod.ext_iff.mp hrq
  obtain ⟨hf, hoff⟩ := h r hr
  exact ⟨fun hq0 => hlevel ▸ hf (hforced.trans hq0), fun hq0 hj => hoff (hlevel.trans hq0) (hl.subset hj)⟩

/-! ### What a row may do between grant rounds and share ticks (R67, R92) -/

/-- Straps, N, allowance, shed mask and pointers stand, no trip is asserted, the list only loses entries, and each
record but that of locker i stands in heat or fits the heat law. -/
structure State.EbbsBut (s : State) (i : Nat) (t : State) : Prop where
  straps : t.straps = s.straps
  count : t.count = s.count
  trip : t.tripped = true → s.tripped = true
  allowance : t.share.allowance = s.share.allowance
  mask : t.grant.mask = s.grant.mask
  pointers : t.grant.pointers = s.grant.pointers
  list : t.grant.list.Sublist s.grant.list
  heat : ∀ j, j ≠ i → t.heatAt j = s.heatAt j ∨ t.HeatFits j

/-- The same with no record left out, since index 0 names none (R1). -/
abbrev State.Ebbs (s t : State) : Prop := s.EbbsBut 0 t

theorem State.EbbsBut.refl (s : State) (i : Nat) : s.EbbsBut i s :=
  ⟨rfl, rfl, id, rfl, rfl, rfl, .refl _, fun _ _ => .inl rfl⟩

theorem State.EbbsBut.trans {s t u : State} {i : Nat} (h : s.EbbsBut i t) (h' : t.EbbsBut i u) : s.EbbsBut i u where
  straps := h'.straps.trans h.straps
  count := h'.count.trans h.count
  trip hu := h.trip (h'.trip hu)
  allowance := h'.allowance.trans h.allowance
  mask := h'.mask.trans h.mask
  pointers := h'.pointers.trans h.pointers
  list := h'.list.trans h.list
  heat j hj := by
    rcases h'.heat j hj with hu | hu
    · rcases h.heat j hj with ht | ht
      · exact .inl (hu.trans ht)
      · exact .inr (ht.of_heatAt h'.list hu)
    · exact .inr hu

theorem State.Ebbs.but {s t : State} (h : s.Ebbs t) (i : Nat) : s.EbbsBut i t :=
  { h with
    heat := fun j _ => by
      by_cases hj : j = 0
      · exact .inr (hj ▸ t.heatFits_zero)
      · exact h.heat j hj }

theorem State.EbbsBut.heatFits {s t : State} {i j : Nat} (h : s.EbbsBut i t) (hj : j ≠ i) (hs : s.HeatFits j) :
    t.HeatFits j := (h.heat j hj).elim (hs.of_heatAt h.list) id

theorem State.Ebbs.heatLaw {s t : State} (h : s.Ebbs t) (hs : s.HeatLaw) : t.HeatLaw := by
  obtain ⟨hf, hi, hn⟩ := s.heatLaw_iff.mp hs
  refine t.heatLaw_iff.mpr ⟨fun j => (h.but (j + 1)).heatFits (by omega) (hf j), fun j hj => ?_, h.list.nodup hn⟩
  rw [State.indices_congr h.count]
  exact hi j (h.list.subset hj)

/-- R71, R92, R69, R93: the three power laws together. -/
abbrev State.PowerLaws (s : State) : Prop := s.PowerLaw ∧ s.AllowanceLaw ∧ s.TripLaw

theorem State.EbbsBut.powerLaws {s t : State} {i : Nat} (h : s.EbbsBut i t) (hs : s.PowerLaws) : t.PowerLaws := by
  obtain ⟨hp, ha, ht⟩ := hs
  refine ⟨?_, ?_, fun htrip => ?_⟩
  · have := h.list.length_le
    simp only [State.PowerLaw, h.allowance] at hp ⊢
    exact (Nat.mul_le_mul_left _ this).trans hp
  · simpa only [State.AllowanceLaw, State.usable, State.capacity, h.allowance, h.straps] using ha
  · obtain ⟨h0, hnil⟩ := ht (h.trip htrip)
    exact ⟨h.allowance.trans h0, List.sublist_nil.mp (hnil ▸ h.list)⟩

/-! ### The shared operations -/

/-- A change of one record, before its level is recomputed. -/
theorem State.OneRow.ebbsBut {s t : State} {i : Nat} (h : s.OneRow i t) (hg : t.grant = s.grant) : s.EbbsBut i t := by
  obtain ⟨hstraps, htime, -, -, -, hshare, -⟩ := (State.lockerSideOnly_iff ..).mp h.side
  exact ⟨hstraps, h.others.1, by simp [State.tripped, htime], by rw [hshare], by rw [hg], by rw [hg], by rw [hg],
    fun j hj => .inl (by simp [State.heatAt, h.others.2 j hj, hstraps])⟩

/-- R49, R50, R66: a recomputed record fits the heat law. -/
theorem State.heatFits_recompute (s : State) (i : Nat) : (s.recompute i).HeatFits i := by
  intro q hq
  obtain ⟨r, hr, rfl⟩ : ∃ r, s.locker? i = some r ∧
      r.recomputed s.time.classes s.time.clock s.straps.commission = q := by simpa using hq
  refine ⟨fun hf => Locker.recomputed_forced (by simpa using hf), fun h0 => ?_⟩
  simp [State.recompute_grant_off hr h0]

theorem State.ebbs_recompute (s : State) (i : Nat) : s.Ebbs (s.recompute i) := by
  have hgrant : (s.recompute i).grant.mask = s.grant.mask ∧ (s.recompute i).grant.pointers = s.grant.pointers ∧
      (s.recompute i).grant.list.Sublist s.grant.list := by
    rcases s.recompute_grant i with h | ⟨h, -⟩ <;> rw [h] <;> simp
  refine ⟨by simp, by simp, by simp [State.tripped], by simp, hgrant.1, hgrant.2.1, hgrant.2.2, fun j _ => ?_⟩
  by_cases hj : j = i
  · exact .inr (hj ▸ s.heatFits_recompute i)
  · exact .inl (by simp [State.heatAt, hj])

/-- R49, R66: the recomputation of the record left out. -/
theorem State.EbbsBut.recompute {s t : State} {i : Nat} (h : s.EbbsBut i t) : s.Ebbs (t.recompute i) :=
  have h' := h.trans ((t.ebbs_recompute i).but i)
  { h' with
    heat := fun j _ => by
      by_cases hj : j = i
      · exact .inr (hj ▸ t.heatFits_recompute i)
      · exact h'.heat j hj }

/-- R49, R66: after a recomputation of every record each fits. -/
theorem State.heatFits_recomputeAll (s : State) (j : Nat) : s.recomputeAll.HeatFits j := by
  intro q hq
  refine ⟨fun hf => ?_, s.recomputeAll_off_list hq⟩
  obtain ⟨r, -, rfl⟩ : ∃ r, s.locker? j = some r ∧
      r.recomputed s.time.classes s.time.clock s.straps.commission = q := by simpa using hq
  exact Locker.recomputed_forced (by simpa using hf)

/-- The grant block and the allowance stand. -/
structure State.PowerStands (s t : State) : Prop where
  grant : t.grant = s.grant
  allowance : t.share.allowance = s.share.allowance

/-- A change of other blocks. A warm restart ends with a recomputation of every record. -/
theorem State.QuietOrRestart.ebbs {s t : State} (h : s.QuietOrRestart t) (hp : s.PowerStands t) : s.Ebbs t where
  straps := h.stands.straps
  count := h.recordsFollow.1
  trip := by simp [State.tripped, h.stands.time]
  allowance := hp.allowance
  mask := by rw [hp.grant]
  pointers := by rw [hp.grant]
  list := by rw [hp.grant]
  heat j _ := by
    rcases h with h | ⟨u, -, rfl⟩
    · exact .inl (by simp [State.heatAt, h.locker?, h.straps])
    · exact .inr (State.heatFits_recomputeAll _ j)

theorem State.Quiet.ebbs {s t : State} (h : s.Quiet t) (hp : s.PowerStands t) : s.Ebbs t :=
  State.QuietOrRestart.ebbs (.inl h) hp

/-- A tick: whatever it makes of the records, their levels are recomputed. -/
theorem State.ebbs_recomputeAll {s t : State} (hs : t.straps = s.straps) (hc : t.count = s.count)
    (ht : t.tripped = true → s.tripped = true) (ha : t.share.allowance = s.share.allowance) (hg : t.grant = s.grant) :
    s.Ebbs t.recomputeAll := by
  obtain ⟨hlist, hmask, hpointers, -⟩ := t.recomputeAll_grant
  rw [hg] at hlist hmask hpointers
  exact ⟨by simp [hs], by simp [hc], by simpa [State.tripped] using ht, by simp [ha], hmask, hpointers, hlist,
    fun j _ => .inr (t.heatFits_recomputeAll j)⟩

/-- Records that change in neither level nor forcing condition. -/
theorem State.ebbs_of_records {s t : State} (hs : t.straps = s.straps) (hc : t.count = s.count)
    (ht : t.tripped = true → s.tripped = true) (ha : t.share.allowance = s.share.allowance) (hg : t.grant = s.grant)
    (hr : ∀ j r, s.locker? j = some r → ∃ q, t.locker? j = some q ∧
      q.heat s.straps.commission = r.heat s.straps.commission) : s.Ebbs t := by
  refine ⟨hs, hc, ht, ha, by rw [hg], by rw [hg], by rw [hg], fun j _ => .inl ?_⟩
  cases hj : s.locker? j with
  | none =>
    have hn : t.locker? j = none := by
      cases hq : t.locker? j with
      | none => rfl
      | some q =>
        have hi := State.mem_indices_of_locker? hq
        rw [State.indices_congr hc] at hi
        obtain ⟨r, hr⟩ := State.locker?_of_mem_indices hi
        simp [hj] at hr
    simp [State.heatAt, hj, hn]
  | some r =>
    obtain ⟨q, hq, he⟩ := hr j r hj
    simp [State.heatAt, hj, hq, hs, he]

theorem State.ebbs_modLocker (s : State) (i : Nat) {f : Locker → Locker}
    (hf : ∀ r, (f r).heat s.straps.commission = r.heat s.straps.commission) : s.Ebbs (s.modLocker i f) := by
  refine State.ebbs_of_records (by simp) (by simp) (by simp [State.tripped]) (by simp) (by simp) fun j r hr => ?_
  by_cases hj : j = i
  · exact ⟨f r, by simp [hj, hj ▸ hr], hf r⟩
  · exact ⟨r, by simp [hj, hr], rfl⟩

/-- R11, R165: the driver's take moves a door cycle alone. -/
theorem State.ebbs_takeLatch (s : State) : s.Ebbs s.takeLatch := by
  refine State.ebbs_of_records (by simp) (by simp) (by simp [State.tripped]) (by simp) (by simp) fun j r hr => ?_
  rw [State.takeLatch_record, hr]
  refine ⟨_, rfl, ?_⟩
  dsimp only
  split <;> rfl

theorem State.ebbs_requestLatch (s : State) (i : Nat) : s.Ebbs (s.requestLatch i) := by
  refine State.ebbs_of_records (by simp) (by simp) (by simp [State.tripped]) (by simp) (by simp) fun j r hr => ?_
  rw [State.requestLatch_record, hr]
  refine ⟨_, rfl, ?_⟩
  dsimp only
  split <;> rfl

/-- R10: a door cycle that begins changes no level and no forcing condition. -/
theorem State.ebbs_beginCycle (s : State) (i : Nat) : s.Ebbs (s.beginCycle i) := by
  cases hr : s.locker? i with
  | none => simpa [State.beginCycle, hr] using State.EbbsBut.refl s 0
  | some r =>
    rw [State.beginCycle_some hr]
    split
    · exact s.ebbs_modLocker i (by intro; rfl)
    · exact (s.ebbs_modLocker i (by intro; rfl)).trans (State.ebbs_requestLatch ..)

end Sys2Proof.Machine
end

section
/-! PROOFS. The rows that move no heat and no power but by a warm restart, or by what they make of a record. -/

namespace Sys2Proof.Machine

/-! ### Reports and replies -/

theorem State.PowerStands.refl (s : State) : s.PowerStands s := ⟨rfl, rfl⟩

theorem State.PowerStands.trans {s t u : State} (h : s.PowerStands t) (h' : t.PowerStands u) : s.PowerStands u :=
  ⟨h'.grant.trans h.grant, h'.allowance.trans h.allowance⟩

theorem State.PowerStands.withLine {s t : State} (h : s.PowerStands t) (l : Line) : s.PowerStands (t.withLine l) :=
  h.trans ⟨rfl, rfl⟩

theorem State.PowerStands.withCip {s t : State} (h : s.PowerStands t) (c : Cip) : s.PowerStands (t.withCip c) :=
  h.trans ⟨rfl, rfl⟩

theorem State.PowerStands.isolate {s t : State} (h : s.PowerStands t) : s.PowerStands t.isolate :=
  h.trans ⟨by simp, by simp⟩

theorem State.PowerStands.demandCompleted {s t : State} (h : s.PowerStands t) : s.PowerStands t.demandCompleted := by
  rcases t.demandCompleted_cases with ⟨-, -, -, hd⟩ | ⟨-, hd⟩ <;> rw [hd] <;> exact h.trans ⟨rfl, rfl⟩

theorem State.powerStands_reassert (s : State) (i : Nat) : s.PowerStands (s.reassert i) := by
  rcases s.reassert_cases i with h | ⟨r, o, -, -, h⟩ <;> rw [h]
  · exact .refl s
  · exact ⟨rfl, rfl⟩

/-- R158: only the report that a RESTARTING processor waits for makes a warm restart. -/
theorem State.powerStands_handReply {s : State} {f : ReplyFrame}
    (h : ¬ (s.cip.proc = .restarting ∧ f.endsRestart = true)) : s.PowerStands (s.handReply f) := by
  rcases s.handReply_cases f with ⟨-, -, hr⟩ | ⟨-, hr⟩ <;> rw [hr]
  · exact ⟨rfl, rfl⟩
  · rw [State.reportReply, if_neg h]; exact .refl s

theorem State.powerStands_answer {s : State} (c : CommandFrame) (a : Answer) (h : s.cip.proc ≠ .restarting) :
    s.PowerStands (s.answer c a) := by
  unfold State.answer
  split
  · exact .refl s
  · exact State.powerStands_handReply fun hc => h hc.1

theorem State.powerStands_answerNow {s : State} (c : CommandFrame) {f : ReplyFrame} (h : f.endsRestart = false) :
    s.PowerStands (s.answerNow c f) := by
  unfold State.answerNow
  split
  · exact State.powerStands_handReply (by simp [h])
  · exact .refl s

/-- R149: a verb moves no more heat and power than its rule. -/
theorem State.ebbs_takeVerb (s : State) (isVerb : CommandFrame → Bool) {rule : CommandFrame → State → State × Answer}
    (hr : ∀ c u, (rule c u).1.cip = u.cip ∧ u.Ebbs (rule c u).1) : s.Ebbs (s.takeVerb isVerb rule) := by
  rcases s.takeVerb_cases isVerb rule with h | ⟨c, rest, -, hp, -, h⟩ <;> rw [h]
  · exact .refl s 0
  · obtain ⟨hc, he⟩ := hr c (s.withCip { s.cip with inbox := rest })
    have hfree : (rule c (s.withCip { s.cip with inbox := rest })).1.cip.proc ≠ .restarting := by rw [hc]; simp [hp]
    have htake : s.Ebbs (s.withCip { s.cip with inbox := rest }) := ((State.Quiet.refl s).withCip _).ebbs ⟨rfl, rfl⟩
    exact (htake.trans he).trans ((State.quiet_answer c _ hfree).ebbs (State.powerStands_answer c _ hfree))

/-! ### Rows that may bring a warm restart about (R158) -/

/-- R139, R158: reports make a warm restart of a RESTARTING processor alone. -/
theorem State.reportAll_restarts (s : State) (fs : List ReplyFrame) :
    fs.foldl State.reportReply s = s ∨ (s.cip.proc = .restarting ∧ fs.foldl State.reportReply s = s.warmRestart) := by
  by_cases hp : s.cip.proc = .restarting
  · exact (s.reportAll_cases fs).imp_right fun h => ⟨hp, h⟩
  · left
    induction fs with
    | nil => rfl
    | cons f fs ih => rw [List.foldl_cons, State.reportReply, if_neg fun h => hp h.1, ih]

/-- The grant block and the allowance stand, or the row may bring about the warm restart that it ends with. -/
def State.PowerStandsOrRestart (s : State) (c : Instr) (t : State) : Prop :=
  s.PowerStands t ∨ (s.MayRestart c ∧ ∃ u : State, t = u.warmRestart)

/-- R158: the reports of a row. -/
theorem State.PowerStands.reportAll {s t : State} {c : Instr} (h : s.PowerStands t)
    (hc : t.cip.proc = .restarting → s.MayRestart c) (fs : List ReplyFrame) :
    s.PowerStandsOrRestart c (fs.foldl State.reportReply t) := by
  rcases t.reportAll_restarts fs with hr | ⟨hq, hr⟩ <;> rw [hr]
  · exact .inl h
  · exact .inr ⟨hc hq, t, rfl⟩

theorem State.PowerStands.reportReply {s t : State} {c : Instr} (h : s.PowerStands t)
    (hc : t.cip.proc = .restarting → s.MayRestart c) (f : ReplyFrame) : s.PowerStandsOrRestart c (t.reportReply f) :=
  h.reportAll hc [f]

/-- R129: a fall out of step. -/
theorem State.PowerStands.fallOutOfStep {s t : State} {c : Instr} (h : s.PowerStands t)
    (hc : t.cip.proc = .restarting → s.MayRestart c) : s.PowerStandsOrRestart c t.fallOutOfStep :=
  (h.withLine t.line.fallen).isolate.reportAll (fun hp => hc (by simpa using hp)) _

theorem powerStands_execTransmissionComplete {s t : State} (h : execTransmissionComplete s = .next t) :
    s.PowerStandsOrRestart .transmissionComplete t := by
  obtain rfl := Host.Outcome.next.inj h
  split
  · split
    · exact .inl (State.PowerStands.demandCompleted ⟨rfl, rfl⟩)
    · exact .inl (.refl s)
  next a _ =>
    have hsent : s.PowerStands (s.withLine (s.line.sent a.list).settle) := ⟨rfl, rfl⟩
    dsimp only
    split
    · split
      · exact hsent.reportReply (fun hp => .inr (.inr ⟨hp, by simp⟩)) _
      · exact .inl hsent
    · exact .inl (hsent.demandCompleted)
    · exact .inl hsent
    · exact .inl hsent

theorem powerStands_execCollision {s t : State} (h : execCollision s = .next t) :
    s.PowerStandsOrRestart .collision t := by
  have hc : s.cip.proc = .restarting → s.MayRestart .collision := fun hp => .inr (.inr ⟨hp, by simp⟩)
  obtain rfl := Host.Outcome.next.inj h
  split
  · exact .inl (.refl s)
  · dsimp only
    split
    · split
      · split
        · exact ((State.PowerStands.refl s).withLine _).reportReply (by exact hc) _
        · exact .inl ⟨rfl, rfl⟩
      · exact .inl ⟨rfl, rfl⟩
    all_goals exact .inl ⟨rfl, rfl⟩

theorem powerStands_execJabber {s t : State} (h : execJabber s = .next t) : s.PowerStandsOrRestart .jabber t := by
  obtain rfl := Host.Outcome.next.inj h
  split
  · dsimp only
    split
    · exact State.PowerStands.fallOutOfStep ⟨rfl, rfl⟩ fun hp => .inr (.inr ⟨hp, by simp⟩)
    · exact .inl ⟨rfl, rfl⟩
  · exact .inl (.refl s)

theorem powerStands_execLossOfStep {s t : State} (h : execLossOfStep s = .next t) :
    s.PowerStandsOrRestart .lossOfStep t := by
  obtain rfl := Host.Outcome.next.inj h
  split
  · exact State.PowerStands.fallOutOfStep ⟨rfl, rfl⟩ fun hp => .inr (.inr ⟨hp, by simp⟩)
  · exact .inl ⟨rfl, rfl⟩

theorem powerStands_execAddressClash {s t : State} (h : execAddressClash s = .next t) :
    s.PowerStandsOrRestart .addressClash t := by
  obtain rfl := Host.Outcome.next.inj h
  split
  · exact .inl (.refl s)
  · exact (((State.PowerStands.refl s).withLine s.line.clashed).withCip _).isolate.reportAll
      (fun hp => .inr (.inr ⟨by simpa using hp, by simp⟩)) _

theorem powerStands_execRestart {s t : State} (h : execRestart s = .next t) : s.PowerStandsOrRestart .restart t := by
  obtain rfl := Host.Outcome.next.inj h
  rcases s.takeVerb_cases (CommandFrame.isVerb verbRestart) _ with h | ⟨c, rest, -, -, -, h⟩ <;> rw [h]
  · exact .inl (.refl s)
  · unfold State.answer
    by_cases hd : c.dest = 31
    · simp only [hd, if_true]
      exact .inr ⟨.inr (.inl rfl), _, rfl⟩
    · simp only [hd, if_false]
      rcases State.handReply_cases _ _ with ⟨-, -, hr⟩ | ⟨-, hr⟩ <;> rw [hr]
      · exact .inl ⟨rfl, rfl⟩
      · exact (((State.PowerStands.refl s).withCip _).withCip _).reportReply (fun _ => .inr (.inl rfl)) _

end Sys2Proof.Machine
end

section
namespace Sys2Proof.Machine

/-! ### Rows beside the records -/

/-- The rows that move the allowance, the mask or the pointers, or that rebuild or empty the list. -/
def movesPower : Instr → Bool
  | .powerOnReset _ | .grantRound | .shareTick | .shed .. | .feederTripAsserted | .supplyLowAsserted => true
  | _ => false

theorem State.powerStands_foldl {α : Type} {s : State} {f : State → α → State}
    (hf : ∀ (t : State) a, t.PowerStands (f t a)) (l : List α) : s.PowerStands (l.foldl f s) := by
  induction l generalizing s with
  | nil => exact .refl s
  | cons a l ih => exact (hf s a).trans ih

theorem powerStands_execCommand {s t : State} {src dest verb : Nat} {ops : List Nat}
    (h : execCommand src dest verb ops s = .next t) : s.PowerStands t := by
  obtain rfl := Host.Outcome.next.inj h
  have hanswered : ∀ (l : List CommandFrame) (x : Cip),
      s.PowerStands (l.foldl (fun s h => s.answerNow h (s.supersededReply h)) (s.withCip x)) := fun l x =>
    ((State.PowerStands.refl s).withCip x).trans (State.powerStands_foldl (fun t c => t.powerStands_answerNow c rfl) l)
  split
  · exact .refl s
  · dsimp only
    split
    · exact (hanswered _ _).withCip _
    · exact (hanswered _ _).trans (State.powerStands_answerNow _ (by simp [ReplyFrame.endsRestart, busyReply]))

theorem State.powerStands_takeVerb (s : State) (isVerb : CommandFrame → Bool)
    {rule : CommandFrame → State → State × Answer}
    (hr : ∀ c u, (rule c u).1.cip = u.cip ∧ u.PowerStands (rule c u).1) : s.PowerStands (s.takeVerb isVerb rule) := by
  rcases s.takeVerb_cases isVerb rule with h | ⟨c, rest, -, hp, -, h⟩ <;> rw [h]
  · exact .refl s
  · obtain ⟨hc, hs⟩ := hr c (s.withCip { s.cip with inbox := rest })
    exact (((State.PowerStands.refl s).withCip _).trans hs).trans (State.powerStands_answer c _ (by rw [hc]; simp [hp]))

theorem powerStands_takeClass (s : State) : s.PowerStands s.takeClass := by
  unfold State.takeClass
  split
  · exact .refl s
  · split
    next hc =>
      have hp : s.cip.proc = .free := by
        simp only [State.canTake, Bool.and_eq_true, beq_iff_eq] at hc
        exact hc.1.1
      have htaken := (State.PowerStands.refl s).withCip
      dsimp only
      split
      · exact (htaken _).trans (State.powerStands_answer _ _ (by simp [hp]))
      · split
        · exact (htaken _).withCip _
        · exact (htaken _).trans (State.powerStands_answer _ _ (by simp [hp]))
    · exact .refl s

theorem powerStands_besideRecords {c : Instr} {s t : State} (hb : besideRecords c = true) (hc : movesPower c = false)
    (h : exec c s = .next t) : s.PowerStandsOrRestart c t := by
  cases c <;> simp only [besideRecords, reduceCtorEq] at hb <;> simp only [movesPower, reduceCtorEq] at hc
  case addressClash => exact powerStands_execAddressClash h
  case restart => exact powerStands_execRestart h
  case transmissionComplete => exact powerStands_execTransmissionComplete h
  case collision => exact powerStands_execCollision h
  case jabber => exact powerStands_execJabber h
  case lossOfStep => exact powerStands_execLossOfStep h
  all_goals refine .inl ?_
  case command => exact powerStands_execCommand h
  all_goals obtain rfl := Host.Outcome.next.inj h
  case query =>
    refine s.powerStands_takeVerb _ fun c u => ?_
    unfold queryRule
    split <;> exact ⟨rfl, .refl u⟩
  case queryBank => exact s.powerStands_takeVerb _ fun c u => ⟨rfl, .refl u⟩
  case lampTest =>
    refine s.powerStands_takeVerb _ fun c u => ?_
    unfold lampTestRule
    split <;> exact ⟨rfl, ⟨rfl, rfl⟩⟩
  case classWrite => exact powerStands_takeClass s
  case unknownVerb => exact s.powerStands_takeVerb _ fun c u => ⟨rfl, .refl u⟩
  case offer =>
    split
    · exact .refl s
    · split
      · exact s.powerStands_reassert _
      · repeat' split
        all_goals exact ⟨rfl, rfl⟩
  case digitKey | clearKey =>
    split
    · dsimp only
      split <;> exact ⟨rfl, rfl⟩
    · exact .refl s
  all_goals
    repeat' split
    all_goals exact ⟨rfl, rfl⟩

end Sys2Proof.Machine
end

section
namespace Sys2Proof.Machine

/-! ### Rows of one record -/

section
variable {s t : State} {i : Nat}

theorem State.takeOpening_grant (s : State) (i : Nat) : (s.takeOpening i).grant = s.grant := by
  cases h : s.locker? i with
  | none => simp [State.takeOpening, h]
  | some r => rcases State.takeOpening_cases h with ⟨-, ho⟩ | ⟨-, ho⟩ | ⟨-, ho⟩ | ⟨-, ho⟩ <;> simp [ho]

theorem State.takeClose_grant (s : State) (i : Nat) : (s.takeClose i).grant = s.grant := by
  cases h : s.locker? i with
  | none => simp [State.takeClose, h]
  | some r => rcases State.takeClose_cases h with ⟨-, ho⟩ | ⟨-, ho⟩ <;> simp [ho]

theorem State.ebbs_notify (s : State) (i : Nat) (e : NoticeEvent) (why : NoticeReason) (n : Nat) :
    s.Ebbs (s.notify i e why n) := ((State.Quiet.refl s).withLine (by simp)).ebbs ⟨rfl, rfl⟩

theorem State.ebbs_modPins (s : State) (i : Nat) (f : LockerPins → LockerPins) : s.Ebbs (s.modPins i f) :=
  State.ebbs_of_records (by simp) (by simp) (by simp [State.tripped]) (by simp) (by simp) fun j r hr =>
    ⟨r, by simpa using hr, rfl⟩

theorem State.ebbsBut_modLocker (s : State) (i : Nat) (f : Locker → Locker) : s.EbbsBut i (s.modLocker i f) :=
  (s.oneRow_modLocker i f).ebbsBut (by simp)

theorem ebbs_execProbeSample {raw : Nat} (h : execProbeSample i raw s = .next t) : s.Ebbs t := by
  obtain rfl := Host.Outcome.next.inj h
  split
  · exact .refl s 0
  · split
    · exact (((s.oneRow_modPins i _).trans (State.oneRow_modLocker ..)).trans
        (State.oneRow_takeResult ..)).ebbsBut (by simp) |>.recompute
    · exact .refl s 0

theorem ebbs_execFirstSweepReading {raw : Nat} {door tray : Bool}
    (h : execFirstSweepReading i door tray raw s = .next t) : s.Ebbs t := by
  obtain rfl := Host.Outcome.next.inj h
  split
  · exact .refl s 0
  · split
    · exact .refl s 0
    · have hread := (s.oneRow_modPins i fun _ => ⟨door, tray, raw⟩).trans
        (State.oneRow_modLocker _ i fun r => r.firstRead door tray)
      dsimp only
      split
      · exact (((hread.trans (State.oneRow_retire ..)).trans (State.oneRow_modLocker ..)).trans
          (State.oneRow_takeResult ..)).ebbsBut (by simp) |>.recompute
      · exact ((hread.trans (State.oneRow_modLocker ..)).trans
          (State.oneRow_takeResult ..)).ebbsBut (by simp) |>.recompute

theorem ebbs_execDoorOpened (h : execDoorOpened i s = .next t) : s.Ebbs t := by
  obtain rfl := Host.Outcome.next.inj h
  split
  · exact .refl s 0
  · split
    · exact (((s.oneRow_modPins i _).trans (State.oneRow_modLocker ..)).trans
        (State.oneRow_takeOpening ..)).ebbsBut (by simp [State.takeOpening_grant]) |>.recompute
    · exact .refl s 0

theorem ebbs_execDoorClosed (h : execDoorClosed i s = .next t) : s.Ebbs t := by
  obtain rfl := Host.Outcome.next.inj h
  split
  · exact .refl s 0
  · split
    · exact (((s.oneRow_modPins i _).trans (State.oneRow_modLocker ..)).trans
        (State.oneRow_takeClose ..)).ebbsBut (by simp [State.takeClose_grant]) |>.recompute
    · exact .refl s 0

theorem State.ebbs_trayChange (s : State) (i : Nat) (present : Bool) : s.Ebbs (s.trayChange i present) := by
  unfold State.trayChange
  split
  · exact .refl s 0
  · split
    · dsimp only
      split
      · exact (((s.oneRow_modPins i _).trans (State.oneRow_modLocker ..)).trans
          (State.oneRow_strike ..)).ebbsBut (by simp) |>.recompute
      · exact (s.ebbs_modPins i _).trans (State.ebbs_modLocker _ i (by intro; rfl))
    · exact .refl s 0

theorem ebbs_execAjar (h : execAjar i s = .next t) : s.Ebbs t := by
  obtain rfl := Host.Outcome.next.inj h
  split
  · exact .refl s 0
  · split
    · exact (s.ebbs_modLocker i (by intro; rfl)).trans (State.ebbs_notify ..)
    · exact .refl s 0

theorem ebbs_execOpenWaitExpired (h : execOpenWaitExpired i s = .next t) : s.Ebbs t := by
  obtain rfl := Host.Outcome.next.inj h
  split
  · exact .refl s 0
  · split
    · split
      · exact (s.ebbs_modLocker i (by intro; rfl)).trans (State.ebbs_requestLatch ..)
      · exact ((s.oneRow_modLocker i _).trans (State.oneRow_strike ..)).ebbsBut (by simp) |>.recompute
    · exact .refl s 0

/-- R166: the pulse and the door cycles move alone. -/
theorem ebbs_execPulseEnded (h : execPulseEnded s = .next t) : s.Ebbs t := by
  obtain rfl := Host.Outcome.next.inj h
  split
  · exact .refl s 0
  · have hidle : s.Ebbs (s.withLatch { s.latch with pulse := none }) :=
      State.ebbs_of_records rfl rfl id rfl rfl fun j r hr => ⟨r, hr, rfl⟩
    have hend : ∀ (r : Locker) b, r.pulseEnd.heat b = r.heat b := fun r b => by
      unfold Locker.pulseEnd; split <;> rfl
    exact (hidle.trans (State.ebbs_modLocker _ _ fun r => hend r _)).trans (State.ebbs_takeLatch _)

end

/-! ### Ticks and the end of a window -/

theorem ebbs_execSecondTick {s t : State} (h : execSecondTick s = .next t) : s.Ebbs t := by
  rw [execSecondTick_ticked] at h
  obtain rfl := Host.Outcome.next.inj h
  obtain ⟨htime, hstraps, -, hcount⟩ := s.secondTicked_frame
  exact State.ebbs_recomputeAll hstraps hcount (by simp [State.tripped, htime, Timebase.secondTick])
    (by simp [State.secondTicked]) (by simp [State.secondTicked])

theorem ebbs_execMinuteTick {s t : State} (h : execMinuteTick s = .next t) : s.Ebbs t := by
  rw [execMinuteTick_ticked] at h
  obtain rfl := Host.Outcome.next.inj h
  obtain ⟨hstraps, hcount, htime, hshare, hgrant⟩ : s.minuteTicked.straps = s.straps ∧ s.minuteTicked.count = s.count ∧
      s.minuteTicked.time = s.time.minuteTick ∧ s.minuteTicked.share = s.share ∧ s.minuteTicked.grant = s.grant :=
    State.forEach_keeps (P := fun t => t.straps = s.straps ∧ t.count = s.count ∧ t.time = s.time.minuteTick ∧
      t.share = s.share ∧ t.grant = s.grant) ⟨rfl, rfl, rfl, rfl, rfl⟩ fun t i _ ht => by simpa using ht
  exact State.ebbs_recomputeAll hstraps hcount (by simp [State.tripped, htime, Timebase.minuteTick])
    (by rw [hshare]) hgrant

theorem State.ebbs_withBook (s : State) (b : List BookEntry) : s.Ebbs (s.withBook b) :=
  ((State.Quiet.refl s).withBook b).ebbs ⟨rfl, rfl⟩

theorem State.ebbs_handOrder (s : State) (f : OrderFrame) : s.Ebbs (s.handOrder f) :=
  ((State.Quiet.refl s).handOrder f).ebbs ⟨rfl, rfl⟩

theorem ebbs_execWindowEnd {s t : State} {order : Nat} (h : execWindowEnd order s = .next t) : s.Ebbs t := by
  obtain rfl := Host.Outcome.next.inj h
  split
  · exact .refl s 0
  · have hdrop : s.Ebbs (s.dropEntry order) := s.ebbs_withBook _
    dsimp only
    split
    · split
      · exact (hdrop.trans (State.ebbsBut_modLocker ..).recompute).trans (State.ebbs_handOrder ..)
      · exact hdrop
    · exact hdrop

/-! ### Verbs, entries and claims -/

theorem ebbs_execClaim {s t : State} {src order score locker : Nat} {loaded : Bool}
    (h : execClaim src order score locker loaded s = .next t) : s.Ebbs t := by
  obtain rfl := Host.Outcome.next.inj h
  have hreassert : ∀ i, s.Ebbs (s.reassert i) := fun i => (s.quiet_reassert i).ebbs (s.powerStands_reassert i)
  split
  · split
    · exact s.ebbs_withBook _
    · exact s.ebbs_withBook _
  · split
    next i _ =>
      unfold State.meetClaim
      split
      · exact .refl s 0
      · split
        · exact .refl s 0
        · split
          · split
            · exact (s.ebbsBut_modLocker i _).recompute.trans (State.ebbs_handOrder ..)
            · exact hreassert i
          · split
            · exact .refl s 0
            · exact hreassert i
    · exact .refl s 0

/-- R10: a record that changes its state as its door cycle begins. -/
theorem State.ebbs_opening (s : State) (i : Nat) (f : Locker → Locker) :
    s.Ebbs (((s.modLocker i f).beginCycle i).recompute i) :=
  ((s.ebbsBut_modLocker i f).trans ((State.ebbs_beginCycle ..).but i)).recompute

/-- R25: a match request releases a record, or leaves the state. -/
theorem State.ebbs_matchRequest (s : State) (order digits : Nat) : s.Ebbs (s.matchRequest order digits).1 := by
  unfold State.matchRequest
  split
  · exact .refl s 0
  · split
    · exact .refl s 0
    · split
      · exact s.ebbs_opening _ _
      · exact .refl s 0

theorem ebbs_execEnterKey {s t : State} (h : execEnterKey s = .next t) : s.Ebbs t := by
  obtain rfl := Host.Outcome.next.inj h
  have hkeypad : ∀ (u : State) k, u.Ebbs (u.withKeypad k) := fun u k =>
    ((State.Quiet.refl u).withKeypad k).ebbs ⟨rfl, rfl⟩
  have hkey : s.Ebbs (s.acceptKey .enter) := (((State.Quiet.refl s).withKeypad _).withPins _).ebbs ⟨rfl, rfl⟩
  split
  · dsimp only
    split
    · exact hkey
    · unfold State.judgeEntry
      have hemptied := hkey.trans (hkeypad _ (s.acceptKey .enter).keypad.emptied)
      dsimp only
      split
      · exact hemptied
      · split
        · exact hemptied.trans (hkeypad ..)
        · exact (hemptied.trans (State.ebbs_matchRequest ..)).trans (hkeypad ..)
  · exact .refl s 0

/-- R150 step 2: COMMISSION refuses a verb, or its rule is applied. -/
theorem ebbs_inService {rule : CommandFrame → State → State × Answer} (hr : ∀ c (u : State), u.Ebbs (rule c u).1)
    (c : CommandFrame) (u : State) : u.Ebbs (inService rule c u).1 := by
  unfold inService
  split
  · exact .refl u 0
  · exact hr c u

theorem ebbs_loadRule (c : CommandFrame) (u : State) : u.Ebbs (loadRule c u).1 := by
  unfold loadRule
  split
  · exact .refl u 0
  · split
    · exact .refl u 0
    · split
      · exact u.ebbs_opening _ _
      · exact .refl u 0
      · exact .refl u 0

theorem ebbs_voidRule (c : CommandFrame) (u : State) : u.Ebbs (voidRule c u).1 := by
  unfold voidRule
  split
  · split
    · exact u.ebbs_withBook _
    · exact .refl u 0
  next i _ =>
    split
    · exact .refl u 0
    · split
      · exact (u.ebbs_notify ..).trans (State.ebbsBut_modLocker ..).recompute
      · exact u.ebbs_modLocker i (by intro; rfl)
      · exact ((u.oneRow_retire i _).ebbsBut (by simp)).recompute
      all_goals exact .refl u 0

/-- R153, R154: a locker verb. -/
theorem ebbs_lockerRule {rule : Nat → Locker → State → State × Answer}
    (hr : ∀ i r (u : State), u.Ebbs (rule i r u).1) (c : CommandFrame) (u : State) :
    u.Ebbs (lockerRule rule c u).1 := by
  unfold lockerRule
  split
  · exact .refl u 0
  · split
    · exact hr ..
    · exact .refl u 0

theorem ebbs_clearRule (i : Nat) (r : Locker) (u : State) : u.Ebbs (clearRule i r u).1 := by
  unfold clearRule
  split
  · dsimp only
    split
    · exact u.ebbs_beginCycle i
    · exact .refl u 0
  · exact .refl u 0

theorem ebbs_blockRule (i : Nat) (r : Locker) (u : State) : u.Ebbs (blockRule i r u).1 := by
  unfold blockRule
  split
  · exact (u.ebbsBut_modLocker i _).recompute
  · exact .refl u 0

theorem ebbs_unblockRule (i : Nat) (r : Locker) (u : State) : u.Ebbs (unblockRule i r u).1 := by
  unfold unblockRule
  split
  · exact (u.ebbsBut_modLocker i _).recompute
  · exact .refl u 0

/-- R149, R150: what the verbs of an order or a locker move. -/
theorem State.ebbs_serviceVerb (s : State) (verb : Nat) {rule : CommandFrame → State → State × Answer}
    (hm : ∀ c u, (rule c u).1.cip = u.cip ∧ u.Moves (rule c u).1) (hr : ∀ c (u : State), u.Ebbs (rule c u).1) :
    s.Ebbs (s.takeVerb (CommandFrame.isVerb verb) (inService rule)) :=
  s.ebbs_takeVerb _ fun c u => ⟨(moves_inService hm c u).1, ebbs_inService hr c u⟩

theorem ebbs_execClassWriteEnd {s t : State} (h : execClassWriteEnd s = .next t) : s.Ebbs t := by
  obtain rfl := Host.Outcome.next.inj h
  split
  next w _ =>
    have hwritten : s.Ebbs ((s.withTime (s.time.writeClass w)).withCip { s.cip with proc := .free }) :=
      State.ebbs_of_records rfl rfl id rfl rfl fun j r hr => ⟨r, hr, rfl⟩
    dsimp only
    split
    · exact hwritten
    · exact hwritten.trans ((State.quiet_handReply (by simp)).ebbs (State.powerStands_handReply (by simp)))
  · exact .refl s 0
  · exact .refl s 0

/-! ### All rows -/

/-- R67, R92: what a row that is no grant round, share tick, SHED, trip or reset does to heat and power. -/
theorem ebbs_exec {c : Instr} {s t : State} (hc : movesPower c = false) (h : exec c s = .next t) :
    s.Ebbs t ∨ (s.MayRestart c ∧ ∃ u : State, t = u.warmRestart) := by
  by_cases hb : besideRecords c = true
  · exact (powerStands_besideRecords hb hc h).imp_left (exec_besideRecords hb h).ebbs
  cases c <;> simp only [besideRecords, not_true_eq_false] at hb <;> simp only [movesPower, reduceCtorEq] at hc
  case warmRestart =>
    obtain rfl := Host.Outcome.next.inj h
    exact .inr ⟨.inl rfl, s, rfl⟩
  all_goals refine .inl ?_
  case firstSweepReading => exact ebbs_execFirstSweepReading h
  case probeSample => exact ebbs_execProbeSample h
  case doorOpened => exact ebbs_execDoorOpened h
  case doorClosed => exact ebbs_execDoorClosed h
  case ajar => exact ebbs_execAjar h
  case openWaitExpired => exact ebbs_execOpenWaitExpired h
  case pulseEnded => exact ebbs_execPulseEnded h
  case secondTick => exact ebbs_execSecondTick h
  case minuteTick => exact ebbs_execMinuteTick h
  case windowEnd => exact ebbs_execWindowEnd h
  case claim src order score locker loaded => exact ebbs_execClaim (src := src) (locker := locker) h
  case enterKey => exact ebbs_execEnterKey h
  case classWriteEnd => exact ebbs_execClassWriteEnd h
  all_goals obtain rfl := Host.Outcome.next.inj h
  case trayAppeared i => exact s.ebbs_trayChange i true
  case trayRemoved i => exact s.ebbs_trayChange i false
  case load => exact s.ebbs_serviceVerb _ moves_loadRule ebbs_loadRule
  case void => exact s.ebbs_serviceVerb _ moves_voidRule ebbs_voidRule
  case clear =>
    exact s.ebbs_serviceVerb _ (moves_lockerRule fun _ _ _ => moves_clearRule) (ebbs_lockerRule ebbs_clearRule)
  case block =>
    exact s.ebbs_serviceVerb _ (moves_lockerRule fun _ _ _ => moves_blockRule) (ebbs_lockerRule ebbs_blockRule)
  case unblock =>
    exact s.ebbs_serviceVerb _ (moves_lockerRule fun _ _ _ h _ => moves_unblockRule h)
      (ebbs_lockerRule ebbs_unblockRule)
  case time =>
    split
    · exact State.ebbs_recomputeAll rfl rfl id rfl rfl
    · exact .refl s 0
  case flashPhase | lampFrame => exact State.ebbs_of_records rfl rfl id rfl rfl fun j r hr => ⟨r, hr, rfl⟩
  case feederTripCleared =>
    split
    · exact State.ebbs_of_records rfl rfl (by simp +contextual [State.tripped]) rfl rfl fun j r hr => ⟨r, hr, rfl⟩
    · exact .refl s 0
  case supplyLowCleared =>
    split
    · refine State.EbbsBut.trans ?_ (State.ebbs_takeLatch _)
      exact State.ebbs_of_records rfl rfl (by simp +contextual [State.tripped]) rfl rfl fun j r hr => ⟨r, hr, rfl⟩
    · exact .refl s 0

/-- R62, R86: the idle step moves the cadences and timers, or queues a strand. -/
theorem State.ebbs_idle (s : State) : s.Ebbs s.idle := by
  unfold State.idle
  split
  · refine ⟨rfl, s.tick_count, id, rfl, rfl, rfl, .refl _, fun j _ => .inl ?_⟩
    rw [State.heatAt, s.tick_locker?, Option.map_map]
    exact Option.map_congr fun r _ => rfl
  · exact State.ebbs_of_records rfl rfl id rfl rfl fun j r hr => ⟨r, hr, rfl⟩

end Sys2Proof.Machine
end

section
/-! PROOFS. GRANT_ROUND (O39). -/

namespace Sys2Proof.Machine

/-! ### The rotation and the levels of a round (R61 to R65) -/

/-- R63: the rotation that begins after p, counted modulo n. -/
theorem rotation_eq {n p : Nat} (h : p ≤ n) : rotation n p = (List.range n).map fun k => (p + k) % n + 1 := by
  obtain ⟨m, rfl⟩ := Nat.exists_eq_add_of_le h
  have hall : (List.range (p + m)).map (· + 1) = (List.range p).map (· + 1) ++ (List.range m).map (p + · + 1) := by
    simp [List.range_add]
  have hafter : ((List.range (p + m)).map (· + 1)).filter (p < ·) = (List.range m).map (p + · + 1) := by
    rw [hall, List.filter_append, List.filter_eq_nil_iff.mpr, List.filter_eq_self.mpr, List.nil_append]
    · simp
    · simp
  have hupto : ((List.range (p + m)).map (· + 1)).filter (· ≤ p) = (List.range p).map (· + 1) := by
    rw [hall, List.filter_append, List.filter_eq_self.mpr, List.filter_eq_nil_iff.mpr, List.append_nil]
    · simp
    · simp
  rw [rotation, hafter, hupto, Nat.add_comm p m, List.range_add, List.map_append, List.map_map]
  congr 1
  · refine List.map_congr_left fun k hk => ?_
    rw [Nat.mod_eq_of_lt (by simp at hk; omega)]
  · refine List.map_congr_left fun k hk => ?_
    have hlt : k < m + p := by simp at hk; omega
    simp [show p + (m + k) = k + (m + p) by omega, Nat.mod_eq_of_lt hlt]

/-- R63: the test of a level, in the words of the statement. -/
theorem State.levelOrder_eq {s : State} {l : Nat} (h : s.grant.pointer l ≤ s.count) : s.levelOrder l = s.turns l := by
  rw [State.levelOrder, State.turns, rotation_eq h]
  refine List.filter_congr fun i _ => ?_
  cases s.locker? i <;> simp

theorem State.mem_levelOrder {s : State} {l i : Nat} (h : i ∈ s.levelOrder l) :
    i ∈ s.indices ∧ (s.locker? i).map Locker.level = some l := by
  simp only [State.levelOrder, rotation, List.mem_filter, List.mem_append] at h
  obtain ⟨hi, hl⟩ := h
  refine ⟨hi.elim And.left And.left, ?_⟩
  cases hr : s.locker? i <;> simp_all

/-- R63: a round takes the candidates of its levels, one level after the other, until the slots are full. -/
theorem State.foldl_visitLevel_list (s : State) (slots : Nat) (levels : List Nat) (acc : List Nat × List Nat) :
    (levels.foldl (s.visitLevel slots) acc).1 =
      acc.1 ++ (levels.flatMap s.levelOrder).take (slots - acc.1.length) := by
  induction levels generalizing acc with
  | nil => simp
  | cons l levels ih =>
    have hleft : slots - (acc.1.length + ((s.levelOrder l).take (slots - acc.1.length)).length) =
        slots - acc.1.length - (s.levelOrder l).length := by rw [List.length_take]; omega
    rw [List.foldl_cons, ih, List.flatMap_cons, List.take_append]
    simp only [State.visitLevel, List.length_append, hleft, List.append_assoc]

/-- R64: the pointer of each level is the last locker taken at it, or stands. -/
def State.PointersFollow (s : State) (acc : List Nat × List Nat) : Prop :=
  acc.2.length = 7 ∧ ∀ l, 1 ≤ l → l ≤ 7 → acc.2.getD (l - 1) 0 =
    ((acc.1.filter fun i => (s.locker? i).map Locker.level == some l).getLast?).getD (s.grant.pointers.getD (l - 1) 0)

theorem State.PointersFollow.visitLevel {s : State} {acc : List Nat × List Nat} {m : Nat} (slots : Nat) (hm : 1 ≤ m)
    (h : s.PointersFollow acc) : s.PointersFollow (s.visitLevel slots acc m) := by
  obtain ⟨hlen, hlast⟩ := h
  have htaken : ∀ i ∈ (s.levelOrder m).take (slots - acc.1.length), (s.locker? i).map Locker.level = some m :=
    fun i hi => (State.mem_levelOrder (List.mem_of_mem_take hi)).2
  unfold State.visitLevel
  generalize (s.levelOrder m).take (slots - acc.1.length) = taken at htaken
  refine ⟨by dsimp only; split <;> simp [hlen], fun l h1 h7 => ?_⟩
  by_cases hl : l = m
  · subst hl
    have hall : taken.filter (fun i => (s.locker? i).map Locker.level == some l) = taken :=
      List.filter_eq_self.mpr fun i hi => by simp [htaken i hi]
    dsimp only
    rw [List.filter_append, hall, List.getLast?_append]
    cases hk : taken.getLast? with
    | none => simpa using hlast l h1 h7
    | some k => simp [List.getD_eq_getElem?_getD, hlen, show l - 1 < 7 by omega]
  · have hnone : taken.filter (fun i => (s.locker? i).map Locker.level == some l) = [] :=
      List.filter_eq_nil_iff.mpr fun i hi => by simp [htaken i hi, Ne.symm hl]
    have hne : m - 1 ≠ l - 1 := by omega
    dsimp only
    rw [List.filter_append, hnone, List.append_nil, ← hlast l h1 h7]
    cases taken.getLast? <;> simp [List.getD_eq_getElem?_getD, hne]

theorem State.mem_visited {s : State} {l : Nat} (h : l ∈ s.visited) : 1 ≤ l ∧ l ≤ 7 := by
  simp only [State.visited, List.mem_filter, List.mem_cons, List.not_mem_nil, or_false] at h
  omega

theorem State.pointersFollow_roundResult {s : State} (h : s.grant.pointers.length = 7) :
    s.PointersFollow s.roundResult := by
  have key : ∀ (levels : List Nat) acc, (∀ l ∈ levels, 1 ≤ l) → s.PointersFollow acc →
      s.PointersFollow (levels.foldl (s.visitLevel s.slotCount) acc) := by
    intro levels
    induction levels with
    | nil => exact fun acc _ ha => ha
    | cons l levels ih =>
      exact fun acc hl ha => ih _ (fun k hk => hl k (List.mem_cons_of_mem l hk))
        (ha.visitLevel _ (hl l List.mem_cons_self))
  exact key _ _ (fun l hl => (State.mem_visited hl).1) ⟨h, fun l _ _ => by simp⟩

theorem State.roundResult_list (s : State) : s.roundResult.1 = (s.visited.flatMap s.levelOrder).take s.slotCount := by
  simpa [State.roundResult] using s.foldl_visitLevel_list s.slotCount s.visited ([], s.grant.pointers)

/-- R62, R65: a round empties the list under a trip, and otherwise builds it. -/
theorem execGrantRound_tripped {s : State} (h : s.tripped = true) :
    execGrantRound s = .next (s.withGrant { s.grant with list := [] }) := by simp [execGrantRound, h]

theorem execGrantRound_untripped {s : State} (h : s.tripped = false) : execGrantRound s =
    .next (s.withGrant { s.grant with list := s.roundResult.1, pointers := s.roundResult.2 }) := by
  simp [execGrantRound, h]

/-- Settles O39: a round's list is the turns of its levels up to the slot count, and each pointer follows. -/
theorem grantRoundRebuildsList : Obligations.GrantRoundRebuildsList := by
  intro s hs
  obtain ⟨-, -, -, -, hlen, hpointers⟩ := hs
  have hpointer : ∀ l, s.grant.pointer l ≤ s.count := by
    intro l
    rw [Grant.pointer, List.getD_eq_getElem?_getD]
    cases hp : s.grant.pointers[l - 1]? with
    | none => simp
    | some p => exact hpointers p (List.mem_of_getElem? hp)
  have hturns : s.visited.flatMap s.levelOrder =
      ([7, 6, 5, 4, 3, 2, 1].filter fun l => decide (max 1 s.grant.mask ≤ l)).flatMap s.turns := by
    rw [show s.levelOrder = s.turns from funext fun l => State.levelOrder_eq (hpointer l)]
    rfl
  cases ht : s.tripped with
  | true =>
    refine ⟨_, execGrantRound_tripped ht, rfl, fun _ => ⟨rfl, rfl⟩, fun hf hl => ?_⟩
    simp [State.tripped, hf, hl] at ht
  | false =>
    refine ⟨_, execGrantRound_untripped ht, rfl, fun h => ?_, fun _ _ => ⟨?_, State.pointersFollow_roundResult hlen⟩⟩
    · simp [State.tripped] at ht
      simp [ht] at h
    · rw [← hturns]
      exact s.roundResult_list

end Sys2Proof.Machine
end

section
/-! PROOFS. SHARE_TICK at the Peer Table, the share state and the DEMAND slot (O41). -/

namespace Sys2Proof.Machine

/-! ### The share tick, its steps 1 and 2 and its steps 3 to 9 (R79, R83, R85, R92, R95) -/

/-- R83: the unsent run of a tick. -/
def Share.nextRun (x : Share) : Nat := if x.sentMark then 0 else min 8 (x.unsentRun + 1)

/-- R79, R83: the Share Unit after the peers are aged and the unsent run is counted, but for an isolation. -/
def Share.agedCounted (x : Share) : Share :=
  { x with peers := agePeers x.peers, unsentRun := x.nextRun, sentMark := false }

/-- R83, R110: steps 1 and 2 isolate the bank at the eighth unsent tick, or leave its state and its book. -/
theorem State.countUnsent_cases (s : State) :
    ((s.share.state ≠ .isolated ∧ s.share.nextRun = 8) ∧ s.agePeerTable.countUnsent =
      (s.withShare { s.share.agedCounted with state := .isolated, joinCount := 0 }).withBook []) ∨
    (¬ (s.share.state ≠ .isolated ∧ s.share.nextRun = 8) ∧
      s.agePeerTable.countUnsent = s.withShare s.share.agedCounted) := by
  have hcount : s.agePeerTable.countUnsent =
      if s.share.nextRun = 8 then (s.withShare s.share.agedCounted).isolate else s.withShare s.share.agedCounted := rfl
  rw [hcount]
  by_cases hrun : s.share.nextRun = 8
  · rw [if_pos hrun]
    rcases (s.withShare s.share.agedCounted).isolate_cases with ⟨hs, h⟩ | ⟨hs, h⟩ <;> rw [h]
    · exact .inr ⟨fun hn => hn.1 hs, rfl⟩
    · exact .inl ⟨⟨hs, hrun⟩, rfl⟩
  · rw [if_neg hrun]
    exact .inr ⟨fun hn => hrun hn.2, rfl⟩

/-- R85, R92, R95: steps 3 to 9. -/
def State.settleShare (s : State) : State :=
  (s.setAllowance.withShare (s.setAllowance.share.countJoin.indicate s.setAllowance.usable)).announce

theorem execShareTick_eq (s : State) : execShareTick s = .next s.agePeerTable.countUnsent.settleShare := rfl

/-- R85: the count of a JOINING bank moves its state and its count alone. -/
@[simp] theorem Share.countJoin_fields (x : Share) :
    x.countJoin.peers = x.peers ∧ x.countJoin.unsentRun = x.unsentRun ∧ x.countJoin.sentMark = x.sentMark ∧
    x.countJoin.allowance = x.allowance ∧ x.countJoin.seq = x.seq ∧ x.countJoin.cadence = x.cadence := by
  unfold Share.countJoin
  split <;> simp

/-- R80: the indications move alone. -/
@[simp] theorem Share.indicate_fields (x : Share) (usable : Nat) :
    (x.indicate usable).peers = x.peers ∧ (x.indicate usable).unsentRun = x.unsentRun ∧
    (x.indicate usable).sentMark = x.sentMark ∧ (x.indicate usable).allowance = x.allowance ∧
    (x.indicate usable).seq = x.seq ∧ (x.indicate usable).cadence = x.cadence ∧
    (x.indicate usable).state = x.state ∧ (x.indicate usable).joinCount = x.joinCount := by simp [Share.indicate]

/-- R80: when the two wall indications are set. -/
theorem Share.indicate_iff (x : Share) (usable : Nat) :
    ((x.indicate usable).peerTrip = true ↔ ∃ p ∈ x.peers, p.stale = false ∧ p.trip = true) ∧
    ((x.indicate usable).wallOver = true ↔ x.state = .sharing ∧
      usable < x.allowance + ((x.peers.filter fun p => !p.stale).map Peer.lastA).sum) := by
  simp [Share.indicate]

theorem State.settleShare_grant (s : State) : s.settleShare.grant = { s.grant with
    list := if s.nextAllowance < s.share.allowance then s.grant.list.take (s.nextAllowance / 8)
      else s.grant.list } := rfl

/-- What steps 3 to 9 leave unchanged. -/
@[simp] theorem State.settleShare_frame (s : State) :
    s.settleShare.straps = s.straps ∧ s.settleShare.time = s.time ∧ s.settleShare.lockers = s.lockers ∧
    s.settleShare.scanAt = s.scanAt ∧ s.settleShare.latch = s.latch ∧ s.settleShare.keypad = s.keypad ∧
    s.settleShare.book = s.book ∧ s.settleShare.cip = s.cip ∧ s.settleShare.lamp = s.lamp ∧
    s.settleShare.pins = s.pins ∧ s.settleShare.owed = s.owed ∧ s.settleShare.ties = s.ties ∧
    s.settleShare.pending = s.pending := by
  simp [State.settleShare, State.announce, State.setAllowance]

/-- R85, R92, R95: the Share Unit after a tick. -/
theorem State.settleShare_share (s : State) : s.settleShare.share =
    { ({ s.share with allowance := s.nextAllowance }.countJoin.indicate s.usable) with
      seq := (s.share.seq + 1) % 256 } := by
  simp [State.settleShare, State.announce, State.setAllowance, State.usable, State.capacity]

/-- R59, R73: the figures that a bank announces rest on the records, the straps and the shed mask. -/
theorem State.demand_congr {s t : State} (hl : t.lockers = s.lockers) (hs : t.straps = s.straps)
    (hm : t.grant.mask = s.grant.mask) : t.demandHU = s.demandHU ∧ t.floorHU = s.floorHU ∧
      t.ceilingHU = s.ceilingHU ∧ t.weight = s.weight ∧ t.usable = s.usable := by
  simp [State.demandHU, State.floorHU, State.ceilingHU, State.countAtLeast, State.leastLevel, State.weight,
    State.usable, State.capacity, State.count, hl, hs, hm]

theorem State.announce_line (s : State) :
    s.announce.line = s.line.refillDemand { s.announcement with seq := (s.share.seq + 1) % 256 } := rfl

/-- R95: the announcement of a tick takes the DEMAND slot. -/
theorem State.settleShare_line (s : State) : s.settleShare.line = s.line.refillDemand
    ⟨(s.share.seq + 1) % 256, s.demandHU, s.floorHU, s.ceilingHU, s.weight, s.nextAllowance, s.tripped,
      decide (s.settleShare.share.state ≠ .sharing), s.straps.commission⟩ := by
  obtain ⟨hd, hf, hk, hw, -⟩ := State.demand_congr (s := s)
    (t := s.setAllowance.withShare (s.setAllowance.share.countJoin.indicate s.setAllowance.usable)) rfl rfl rfl
  rw [State.settleShare_share, State.settleShare, State.announce_line, State.announcement, hd, hf, hk, hw]
  simp [State.setAllowance, State.tripped, bne, beq_eq_decide]

/-! ### The whole tick -/

/-- R79: the table is aged and thinned out at once. -/
theorem agePeers_eq (peers : List Peer) : agePeers peers =
    (peers.filter fun p => decide (p.silence + 1 < 20)).map fun p =>
      { p with silence := p.silence + 1, stale := p.stale || decide (4 ≤ p.silence + 1) } := by
  rw [agePeers, List.filter_map]
  rfl

/-- R79, R83: what the first two steps set and leave unchanged, whether they isolate the bank or not. -/
@[simp] theorem State.countUnsent_fields (s : State) :
    s.agePeerTable.countUnsent.share.peers = agePeers s.share.peers ∧
    s.agePeerTable.countUnsent.share.unsentRun = s.share.nextRun ∧
    s.agePeerTable.countUnsent.share.sentMark = false ∧
    s.agePeerTable.countUnsent.share.allowance = s.share.allowance ∧
    s.agePeerTable.countUnsent.share.seq = s.share.seq ∧
    s.agePeerTable.countUnsent.share.cadence = s.share.cadence ∧
    s.agePeerTable.countUnsent.grant = s.grant ∧ s.agePeerTable.countUnsent.line = s.line ∧
    s.agePeerTable.countUnsent.straps = s.straps ∧ s.agePeerTable.countUnsent.time = s.time ∧
    s.agePeerTable.countUnsent.lockers = s.lockers ∧ s.agePeerTable.countUnsent.scanAt = s.scanAt ∧
    s.agePeerTable.countUnsent.latch = s.latch ∧ s.agePeerTable.countUnsent.keypad = s.keypad ∧
    s.agePeerTable.countUnsent.cip = s.cip ∧ s.agePeerTable.countUnsent.lamp = s.lamp ∧
    s.agePeerTable.countUnsent.pins = s.pins ∧ s.agePeerTable.countUnsent.owed = s.owed ∧
    s.agePeerTable.countUnsent.ties = s.ties ∧ s.agePeerTable.countUnsent.pending = s.pending := by
  rcases s.countUnsent_cases with ⟨-, h⟩ | ⟨-, h⟩ <;> simp [h, Share.agedCounted]

/-- R85: the share state and the join count after a tick. -/
theorem Share.countJoin_state (x : Share) :
    if x.state = .joining then x.countJoin.joinCount = x.joinCount + 1 ∧
      x.countJoin.state = if 8 ≤ x.joinCount + 1 then .sharing else .joining
    else x.countJoin.state = x.state ∧ x.countJoin.joinCount = x.joinCount := by
  unfold Share.countJoin
  split <;> simp

/-- R83, R85: the share state, the join count and the book after a tick. -/
theorem State.settleShare_state (s : State) :
    if s.share.state ≠ .isolated ∧ s.share.nextRun = 8 then
      s.agePeerTable.countUnsent.settleShare.share.state = .isolated ∧
      s.agePeerTable.countUnsent.settleShare.share.joinCount = 0 ∧
      s.agePeerTable.countUnsent.settleShare.book = []
    else s.agePeerTable.countUnsent.settleShare.book = s.book ∧
      if s.share.state = .joining then
        s.agePeerTable.countUnsent.settleShare.share.joinCount = s.share.joinCount + 1 ∧
        s.agePeerTable.countUnsent.settleShare.share.state = if 8 ≤ s.share.joinCount + 1 then .sharing else .joining
      else s.agePeerTable.countUnsent.settleShare.share.state = s.share.state ∧
        s.agePeerTable.countUnsent.settleShare.share.joinCount = s.share.joinCount := by
  rw [State.settleShare_share]
  rcases s.countUnsent_cases with ⟨hrun, h⟩ | ⟨hrun, h⟩
  · rw [if_pos hrun, h]
    simp [Share.countJoin]
  · rw [if_neg hrun, h]
    refine ⟨by simp, ?_⟩
    have hjoin := ({ s.share.agedCounted with
      allowance := (s.withShare s.share.agedCounted).nextAllowance } : Share).countJoin_state
    simpa [Share.agedCounted] using hjoin

/-- Settles O41: the first two steps age the table and count the run, or isolate the bank; the others settle the
rest. -/
theorem shareTickAgesJoinsAndAnnounces : Obligations.ShareTickAgesJoinsAndAnnounces := by
  intro s run hrun
  obtain rfl : run = s.share.nextRun := hrun
  have hshare := s.agePeerTable.countUnsent.settleShare_share
  have hindicate := ({ s.agePeerTable.countUnsent.share with
    allowance := s.agePeerTable.countUnsent.nextAllowance } : Share).countJoin.indicate_iff
      s.agePeerTable.countUnsent.usable
  obtain ⟨hd, hf, hk, hw, husable⟩ := State.demand_congr (s := s) (t := s.agePeerTable.countUnsent) (by simp) (by simp)
    (by simp)
  refine ⟨_, execShareTick_eq s, by simp, by simp [hshare], by simp [hshare], by simp [hshare],
    by simp [hshare], by simp [hshare, agePeers_eq], s.settleShare_state, ?_, ?_, ?_⟩
  · simpa [hshare] using hindicate.1
  · simpa [hshare, husable] using hindicate.2
  · rw [State.settleShare_line, hd, hf, hk, hw]
    simp [hshare, State.tripped, State.demandHU, State.floorHU, State.ceilingHU, State.countAtLeast, State.leastLevel,
      State.weight, Config.heaterRating]

end Sys2Proof.Machine
end

section
/-! PROOFS. Heat only falls between rounds (O16), and the laws of power (O8) and of heat (O9). -/

namespace Sys2Proof.Machine

/-! ### The rows that move power -/

theorem State.heatLaw_warmRestart (s : State) : s.warmRestart.HeatLaw :=
  (State.heatLaw_iff _).mpr ⟨State.heatFits_recomputeAll _, by simp [Grant.restarted], by simp [Grant.restarted]⟩

theorem State.powerLaws_of_empty {s : State} (hl : s.grant.list = []) (ha : s.share.allowance = 0) : s.PowerLaws :=
  ⟨by simp [State.PowerLaw, hl], by simp [State.AllowanceLaw, ha], fun _ => ⟨ha, hl⟩⟩

/-- Where the records stand, the heat law stands with a list that only loses entries. -/
theorem State.heatLaw_of_sublist {s t : State} (hl : t.lockers = s.lockers) (hs : t.straps = s.straps)
    (hg : t.grant.list.Sublist s.grant.list) (h : s.HeatLaw) : t.HeatLaw := by
  obtain ⟨hf, hlist, hn⟩ := h
  refine ⟨by rwa [hl, hs], fun i hi => ?_, hg.nodup hn⟩
  have := hlist i (hg.subset hi)
  rwa [State.locker?, ← hl] at this

/-- R27, R50: the records of a power-on reset ask for no heat. -/
theorem State.heatLaw_powerOn (s : State) (p : Straps) : (s.powerOn p).HeatLaw := by
  have hlist : (s.powerOn p).grant.list = [] := rfl
  refine ⟨fun r hr _ => ?_, by simp [hlist], by simp [hlist]⟩
  rw [List.eq_of_mem_replicate hr]
  rfl

/-- R69, R93: an assertion leaves a state with an allowance of 0 and an empty list, or changes nothing. -/
theorem exec_trip_cases {c : Instr} {s t : State} (hc : c = .feederTripAsserted ∨ c = .supplyLowAsserted)
    (h : exec c s = .next t) : t = s ∨ (t.lockers = s.lockers ∧ t.straps = s.straps ∧
      t.grant = { s.grant with list := [] } ∧ t.share.allowance = 0) := by
  rcases hc with rfl | rfl <;> obtain rfl := Host.Outcome.next.inj h <;> split
  · exact .inl rfl
  · exact .inr ⟨rfl, rfl, rfl, rfl⟩
  · exact .inl rfl
  · exact .inr ⟨rfl, rfl, rfl, rfl⟩

theorem movesPower_cases {c : Instr} (h : movesPower c = true) :
    (c = .feederTripAsserted ∨ c = .supplyLowAsserted) ∨ (∃ p, c = .powerOnReset p) ∨ c = .shareTick ∨
    c = .grantRound ∨ ∃ src mask, c = .shed src mask := by
  cases c <;> simp [movesPower] at h ⊢

/-- R158: no row that moves power brings a warm restart about. -/
theorem State.not_mayRestart {s : State} {c : Instr} (h : movesPower c = true) : ¬ s.MayRestart c := by
  cases c <;> simp_all [movesPower, State.MayRestart]

/-! ### The allowance of a tick (R69, R73, R87 to R93) -/

/-- R89 to R91: no shared target exceeds U, since the members count the bank itself. -/
theorem sharedTarget_le {u d f w : Nat} {ms : List Member} (hf : f ≤ floorSum ms) (he : d - f ≤ needSum ms)
    (hq : w * (d - f) ≤ weightedNeed ms) : sharedTarget u d f w ms ≤ u := by
  unfold sharedTarget
  split
  next hu =>
    refine Nat.div_le_of_le_mul ?_
    rw [Nat.mul_comm]
    exact Nat.mul_le_mul_right u hf
  next hu =>
    split
    · omega
    · have hshare : (u - floorSum ms) * w * (d - f) / weightedNeed ms ≤ u - floorSum ms := by
        refine Nat.div_le_of_le_mul ?_
        rw [Nat.mul_assoc, Nat.mul_comm]
        exact Nat.mul_le_mul_right _ hq
      omega

theorem State.target_le_usable (s : State) : s.target ≤ s.usable := by
  have hisolated : min s.demandHU s.isolatedShare ≤ s.usable :=
    (Nat.min_le_right ..).trans (Nat.div_le_self ..)
  unfold State.target
  split
  · exact hisolated
  · exact hisolated
  · exact sharedTarget_le (by simp [floorSum, State.members]) (by simp [needSum, State.members, Member.need])
      (by simp [weightedNeed, State.members, Member.need])

/-- R92: the allowance never exceeds U, and is 0 under a trip (R93). -/
theorem State.nextAllowance_le (s : State) : s.nextAllowance ≤ s.usable := by
  have := s.target_le_usable
  unfold State.nextAllowance
  repeat' split
  all_goals omega

theorem State.nextAllowance_tripped {s : State} (h : s.tripped = true) : s.nextAllowance = 0 := by
  simp [State.nextAllowance, h]

/-- R68: the list of a tick fits the new allowance. -/
theorem State.powerLaws_settleShare {s : State} (h : s.PowerLaws) : s.settleShare.PowerLaws := by
  obtain ⟨hp, -, ht⟩ := h
  have hallow : s.settleShare.share.allowance = s.nextAllowance := by simp [s.settleShare_share]
  have hlist := congrArg Grant.list s.settleShare_grant
  refine ⟨?_, ?_, fun htrip => ?_⟩
  · simp only [State.PowerLaw, Config.heaterRating] at hp ⊢
    rw [hallow, hlist]
    dsimp only
    split
    · rw [List.length_take]; omega
    · omega
  · rw [State.AllowanceLaw, hallow]
    simpa [State.usable, State.capacity] using s.nextAllowance_le
  · have htrip : s.tripped = true := by simpa [State.tripped] using htrip
    have h0 := s.nextAllowance_tripped htrip
    rw [hallow, hlist]
    simp [h0, (ht htrip).2]

/-- R79, R83: the first two steps of a tick change no figure of power. -/
theorem State.ebbs_countUnsent (s : State) : s.Ebbs s.agePeerTable.countUnsent :=
  s.quiet_agePeerTable.countUnsent.ebbs ⟨by simp, by simp⟩

theorem State.settleShare_list (s : State) : s.settleShare.grant.list.Sublist s.grant.list := by
  rw [State.settleShare_grant]
  dsimp only
  split
  · exact List.take_sublist ..
  · exact .refl _

/-! ### The list of a round (R58, R60, R63) -/

theorem rotation_nodup (n p : Nat) : (rotation n p).Nodup := by
  have hall : ((List.range n).map (· + 1)).Nodup := List.nodup_range.map fun a b h => by simpa using h
  refine List.nodup_append.mpr ⟨hall.filter _, hall.filter _, fun a ha b hb => ?_⟩
  simp only [List.mem_filter, decide_eq_true_eq] at ha hb
  omega

theorem State.roundResult_nodup (s : State) : s.roundResult.1.Nodup := by
  rw [State.roundResult_list]
  refine List.Nodup.sublist (List.take_sublist ..)
    (List.nodup_flatMap.mpr ⟨fun l _ => (rotation_nodup ..).filter _, ?_⟩)
  have hvisited : s.visited.Nodup := List.Nodup.filter _ (by decide)
  refine hvisited.imp fun {l m} hlm i hi hj => hlm ?_
  simpa [(State.mem_levelOrder hi).2] using (State.mem_levelOrder hj).2

/-- R58, R63: a listed locker is one of the bank's, with a level above 0. -/
theorem State.mem_roundResult {s : State} {i : Nat} (h : i ∈ s.roundResult.1) :
    ∃ r, s.locker? i = some r ∧ r.level ≠ 0 := by
  rw [State.roundResult_list] at h
  obtain ⟨l, hl, hi⟩ := List.mem_flatMap.mp (List.mem_of_mem_take h)
  obtain ⟨r, hr, rfl⟩ := Option.map_eq_some_iff.mp (State.mem_levelOrder hi).2
  exact ⟨r, hr, Nat.one_le_iff_ne_zero.mp (State.mem_visited hl).1⟩

theorem State.roundResult_fits (s : State) : 8 * s.roundResult.1.length ≤ s.share.allowance := by
  have hslots : s.roundResult.1.length ≤ s.slotCount := by
    rw [State.roundResult_list]
    exact List.length_take_le ..
  simp only [State.slotCount, Config.heaterRating] at hslots
  omega

/-! ### The three statements -/

/-- Settles O16: every other row ebbs or restarts, and the rows that move power are taken one by one. -/
theorem heatOnlyFallsBetweenRounds : Obligations.HeatOnlyFallsBetweenRounds := by
  intro c s t h
  cases hm : movesPower c
  · rcases ebbs_exec hm h with he | ⟨hr, u, rfl⟩
    · exact ⟨fun _ => he.list, fun _ => .inl he.allowance, fun _ _ => ⟨fun _ => he.mask, fun _ => he.pointers⟩,
        fun _ => .inl ⟨he.mask, he.pointers⟩⟩
    · exact ⟨by simp [Grant.restarted], by simp [Share.restarted], fun _ hn => absurd hr hn, by simp [Grant.restarted]⟩
  · suffices hrest : _ ∧ _ ∧ _ from ⟨hrest.1, hrest.2.1, hrest.2.2, fun hr => absurd hr (State.not_mayRestart hm)⟩
    rcases movesPower_cases hm with hc | ⟨p, rfl⟩ | rfl | rfl | ⟨src, mask, rfl⟩
    · rcases exec_trip_cases hc h with rfl | ⟨-, -, hg, ha⟩
      · simp
      · simp [hg, ha]
    all_goals obtain rfl := Host.Outcome.next.inj h
    · exact ⟨fun _ => List.nil_sublist _, fun _ => .inr rfl, fun hp => absurd rfl (hp p)⟩
    · have hu := s.ebbs_countUnsent
      exact ⟨fun _ => (State.settleShare_list _).trans hu.list, fun hn => absurd rfl hn, fun _ _ =>
        ⟨fun _ => hu.mask, fun _ => hu.pointers⟩⟩
    · refine ⟨fun hn => absurd rfl hn, fun _ => .inl ?_, fun _ _ => ⟨fun _ => ?_, fun hn => absurd rfl hn⟩⟩ <;>
        split <;> rfl
    · exact ⟨fun _ => .refl _, fun _ => .inl rfl, fun _ _ => ⟨fun hn => absurd rfl (hn src mask), fun _ => rfl⟩⟩

theorem powerLaws_exec {c : Instr} {s t : State} (hs : s.PowerLaws) (h : exec c s = .next t) : t.PowerLaws := by
  cases hm : movesPower c
  · rcases ebbs_exec hm h with he | ⟨-, u, rfl⟩
    · exact he.powerLaws hs
    · exact State.powerLaws_of_empty (by simp [Grant.restarted]) (by simp [Share.restarted])
  · rcases movesPower_cases hm with hc | ⟨p, rfl⟩ | rfl | rfl | ⟨src, mask, rfl⟩
    · rcases exec_trip_cases hc h with rfl | ⟨-, -, hg, ha⟩
      · exact hs
      · exact State.powerLaws_of_empty (by rw [hg]) ha
    · obtain rfl := Host.Outcome.next.inj h
      exact State.powerLaws_of_empty rfl rfl
    · obtain rfl := Host.Outcome.next.inj h
      exact State.powerLaws_settleShare (s.ebbs_countUnsent.powerLaws hs)
    · obtain ⟨-, ha, ht⟩ := hs
      cases htrip : s.tripped
      · obtain rfl := Host.Outcome.next.inj ((execGrantRound_untripped htrip).symm.trans h)
        exact ⟨s.roundResult_fits, ha, fun hn => absurd (htrip.symm.trans hn) Bool.false_ne_true⟩
      · obtain rfl := Host.Outcome.next.inj ((execGrantRound_tripped htrip).symm.trans h)
        exact State.powerLaws_of_empty rfl (ht htrip).1
    · obtain rfl := Host.Outcome.next.inj h
      exact hs

/-- Settles O8: no other row raises the allowance or lists a locker, a tick's target is at most U and it trims the list,
and a round lists as many as the allowance feeds. -/
theorem powerLawsKept : Obligations.PowerLawsKept :=
  keptByStep_of_exec (fun s hs => s.ebbs_idle.powerLaws hs) (fun _ _ _ hs h => powerLaws_exec hs h) fun _ _ hs => hs

theorem heatLaw_exec {c : Instr} {s t : State} (hs : s.HeatLaw) (h : exec c s = .next t) : t.HeatLaw := by
  cases hm : movesPower c
  · rcases ebbs_exec hm h with he | ⟨-, u, rfl⟩
    · exact he.heatLaw hs
    · exact u.heatLaw_warmRestart
  · rcases movesPower_cases hm with hc | ⟨p, rfl⟩ | rfl | rfl | ⟨src, mask, rfl⟩
    · rcases exec_trip_cases hc h with rfl | ⟨hl, hst, hg, -⟩
      · exact hs
      · exact State.heatLaw_of_sublist hl hst (by simp [hg]) hs
    · obtain rfl := Host.Outcome.next.inj h
      exact s.heatLaw_powerOn p
    · have hq := quiet_execShareTick h
      obtain rfl := Host.Outcome.next.inj h
      exact State.heatLaw_of_sublist hq.lockers hq.straps ((State.settleShare_list _).trans s.ebbs_countUnsent.list) hs
    · cases htrip : s.tripped
      · obtain rfl := Host.Outcome.next.inj ((execGrantRound_untripped htrip).symm.trans h)
        refine ⟨hs.1, fun i hi => ?_, s.roundResult_nodup⟩
        obtain ⟨r, hr, h0⟩ := State.mem_roundResult hi
        simpa [hr] using h0
      · obtain rfl := Host.Outcome.next.inj ((execGrantRound_tripped htrip).symm.trans h)
        exact State.heatLaw_of_sublist (s := s) rfl rfl (List.nil_sublist _) hs
    · obtain rfl := Host.Outcome.next.inj h
      exact hs

theorem heatLaw_keptByStep : KeptByStep State.HeatLaw :=
  keptByStep_of_exec (fun s hs => s.ebbs_idle.heatLaw hs) (fun _ _ _ hs h => heatLaw_exec hs h) fun _ _ hs => hs

/-- R50, R60, R71: under the heat law an energised heater's record meets no forcing condition. -/
theorem State.HeatLaw.not_forcedOff {s : State} {i : Nat} (hs : s.HeatLaw) (hi : s.heaterOut i = true) :
    ∃ r, s.locker? i = some r ∧ r.forcedOff s.straps.commission = false := by
  obtain ⟨hf, hin, -⟩ := s.heatLaw_iff.mp hs
  have hi : i ∈ s.grant.list := by simpa [State.heaterOut] using hi
  obtain ⟨r, hr⟩ := State.locker?_of_mem_indices (hin i hi)
  obtain ⟨hforced, hoff⟩ := hf i r hr
  exact ⟨r, hr, Bool.eq_false_iff.mpr fun h => hoff (hforced h) hi⟩

/-- R50: the forcing conditions, one by one. -/
theorem Locker.forcedOff_eq_false {r : Locker} {commission : Bool} : r.forcedOff commission = false ↔
    r.doorOpen = false ∧ (r.state = .reserved ∨ r.state = .holding ∨ r.state = .releasing) ∧ r.temp < 190 ∧
      commission = false := by
  have htemp : decide (Config.cutout ≤ r.temp) = false ↔ r.temp < 190 := decide_eq_false_iff_not.trans Nat.not_le
  have hstate : (!r.state.heats) = false ↔ r.state = .reserved ∨ r.state = .holding ∨ r.state = .releasing := by
    rw [← LockerState.heats_iff, Bool.not_eq_false']
  rw [Locker.forcedOff, Bool.or_eq_false_iff, Bool.or_eq_false_iff, Bool.or_eq_false_iff, htemp, hstate, and_assoc,
    and_assoc]

/-- Settles O9: a row changes no record's heat, or recomputes it, and a round lists each locker with a level once. -/
theorem heatLawKept : Obligations.HeatLawKept := by
  refine ⟨heatLaw_keptByStep, fun s t hs h i hi => ?_⟩
  obtain ⟨r, hr, hf⟩ := (heatLaw_keptByStep s t hs h).not_forcedOff hi
  obtain ⟨hdoor, hstate, htemp, hcommission⟩ := Locker.forcedOff_eq_false.mp hf
  refine ⟨r, hr, hdoor, ?_, ?_, ?_, ?_, ?_, htemp, hcommission⟩ <;> rcases hstate with hx | hx | hx <;> simp [hx]

end Sys2Proof.Machine
end

section
/-! PROOFS. The power condition rows and SHED (O43), and a recomputation (O24). -/

namespace Sys2Proof.Machine

/-- R167, R190: a SUPPLY LOW that falls. -/
theorem execSupplyLowCleared_low {s : State} (h : s.time.supplyLow = true) : execSupplyLowCleared s =
    .next ((s.withTime { s.time with supplyLow := false, supplySettle := none }).withPins
      { s.pins with supplyLow := false }).takeLatch := by simp [execSupplyLowCleared, h]

/-- Settles O43: SHED and the three conditions that only set are read off, and a SUPPLY LOW that falls lets the driver
take its head. -/
theorem powerConditionsAndShed : Obligations.PowerConditionsAndShed := by
  refine ⟨fun src mask s => rfl, fun s h => ⟨{ s.pins with feederTrip := true }, ?_⟩,
    fun s h => ⟨{ s.pins with feederTrip := false }, ?_⟩, fun s h => ⟨{ s.pins with supplyLow := true }, ?_⟩,
    fun s h => ?_⟩
  · simp only [Completes, exec, execFeederTripAsserted, h]; rfl
  · simp only [Completes, exec, execFeederTripCleared, h]; rfl
  · simp only [Completes, exec, execSupplyLowAsserted, h]; rfl
  · refine ⟨_, execSupplyLowCleared_low h, by simp, ?_, by simp, fun j r hr => ?_, by simp⟩
    · rw [State.takeLatch_latch]
      rcases hl : s.latch with ⟨_ | ⟨i, rest⟩, _ | p⟩ <;> simp [Latch.served, hl]
    · have hserved : (s.latch.pulse = none ∧ (s.latch.served false).pulse = some ⟨j, 0⟩) ↔
          s.latch.pulse = none ∧ s.latch.queue.head? = some j :=
        and_congr_right fun hp => (Latch.served_pulse_iff hp false j).trans (by simp)
      rw [State.takeLatch_record, State.takeLatch_latch]
      simp [hr, hserved, and_assoc]

/-! ### The recomputation (R49 to R53) -/

/-- R43: the minutes to collect-by, in the words of the rule. -/
theorem minutesToCollect_eq {clock : Option Nat} {t : Nat} {m : Int} (hunset : clock = none → m = 720)
    (hset : ∀ now, clock = some now → if DueAt now t then m = 0 else m = ((t : Int) - now) % 1440) :
    m = minutesToCollect clock t := by
  cases clock with
  | none => exact hunset rfl
  | some now =>
    have h := hset now rfl
    have hahead : ((minutesAhead now t : Nat) : Int) = ((t : Int) - now) % 1440 :=
      Int.toNat_of_nonneg (Int.emod_nonneg _ (by decide))
    simp only [minutesToCollect, isFuture, decide_eq_true_eq, DueAt, ← hahead] at h ⊢
    split at h <;> split <;> omega

/-- R52, R53: the judgement of the phase. -/
theorem Locker.judgePhase_heats {r : Locker} {classes : List (Option ClassEntry)} {c : ClassEntry}
    (h : r.state.heats = true) (hc : r.figures classes = some c) :
    if r.phase = .raise ∧ c.target ≤ r.temp then r.judgePhase classes = r.enterKeep
    else r.judgePhase classes =
      { r with phase := if r.phase = .keep ∧ r.temp + 2 < c.target then .raise else r.phase } := by
  have hkept : ∀ x, r.phase = x → { r with phase := x } = r := fun _ hx => hx ▸ rfl
  cases hp : r.phase with
  | raise => by_cases ht : c.target ≤ r.temp <;> simp [Locker.judgePhase, h, hc, hp, ht, hkept]
  | keep => by_cases ht : r.temp + 2 < c.target <;> simp [Locker.judgePhase, h, hc, hp, ht, hkept]

/-- R50, R51: the level of a record without a forcing condition is the table's. -/
theorem Locker.recomputed_level {r : Locker} {classes : List (Option ClassEntry)} {o : OrderPart} {c : ClassEntry}
    (ho : r.order = some o) (hc : r.figures classes = some c) (clock : Option Nat) {commission : Bool}
    (hf : r.forcedOff commission = false) : (r.recomputed classes clock commission).level =
      tableLevel (r.judgePhase classes) c (minutesToCollect clock o.collectBy) := by
  have hfig : (r.judgePhase classes).figures classes = some c := by simpa [Locker.figures] using hc
  simp [Locker.recomputed, Locker.levelNow, hf, hfig, ho]

/-- Settles O24: the phase is judged where heat counts, a forcing condition gives 0, and the table gives the rest. -/
theorem recomputationGivesLevel : Obligations.RecomputationGivesLevel := by
  intro r classes clock commission o c ho hc
  refine ⟨_, rfl, congrArg (fun q : Locker => { q with level := r.level }) (r.recomputed_but classes clock commission),
    ?_, fun h => ?_, fun hdoor htemp hcom hstate m hm => ?_⟩
  · split
    next hh =>
      have hjudged := Locker.judgePhase_heats ((LockerState.heats_iff _).mpr hh) hc
      simp only [Locker.recomputed]
      split at hjudged
      next ht => rw [if_pos ht, hjudged]; exact ⟨rfl, rfl, rfl⟩
      next ht => rw [if_neg ht, hjudged]; exact ⟨rfl, rfl, rfl⟩
    next hh =>
      rw [← LockerState.heats_iff] at hh
      simp [Locker.recomputed, Locker.judgePhase, hh]
  · refine Locker.recomputed_forced ?_
    by_contra hn
    obtain ⟨hdoor, hstate, htemp, hcom⟩ := Locker.forcedOff_eq_false.mp (Bool.eq_false_iff.mpr hn)
    rcases hstate with hs | hs | hs <;> simp_all
    all_goals omega
  · have hminutes : m = minutesToCollect clock o.collectBy :=
      minutesToCollect_eq (by rintro rfl; exact hm) (by rintro now rfl; exact hm)
    rw [hminutes, Locker.recomputed_level ho hc clock (Locker.forcedOff_eq_false.mpr ⟨hdoor, hstate, htemp, hcom⟩),
      tableLevel]
    have hphase : (r.recomputed classes clock commission).phase = (r.judgePhase classes).phase ∧
        (r.recomputed classes clock commission).keepOn = (r.judgePhase classes).keepOn := ⟨rfl, rfl⟩
    rw [hphase.1, hphase.2]
    cases (r.judgePhase classes).phase <;> simp

end Sys2Proof.Machine
end

section
/-! PROOFS. The blocks that the laws of the line, the book, the Peer Table, the keypad and the ranges read, and the rows
that leave them alone: the relation `Aside`. -/

namespace Sys2Proof.Machine

/-! ### The orders that the records hold (R3) -/

/-- R3: the order part of the record of a locker. -/
def State.orderAt (s : State) (j : Nat) : Option OrderPart := (s.locker? j).bind Locker.order

theorem State.mem_heldOrders (s : State) (n : Nat) :
    n ∈ s.heldOrders ↔ ∃ j o, s.orderAt j = some o ∧ o.order = n := by
  simp only [State.heldOrders, List.mem_filterMap, Option.map_eq_some_iff, State.orderAt, Option.bind_eq_some_iff]
  constructor
  · rintro ⟨r, hr, o, ho, hn⟩
    obtain ⟨j, hj⟩ := State.mem_lockers_iff.mp hr
    exact ⟨j, o, ⟨r, hj, ho⟩, hn⟩
  · rintro ⟨j, o, ⟨r, hj, ho⟩, hn⟩
    exact ⟨r, (State.locker?_eq_some hj).2.2.2, o, ho, hn⟩

/-- A change of a record that leaves its order part, or takes it away. -/
abbrev Locker.KeepsOrder (f : Locker → Locker) : Prop := ∀ r, (f r).order = r.order ∨ (f r).order = none

/-! ### Rows that leave these blocks alone -/

/-- The blocks that the five laws read stand, and no record has taken an order. -/
structure State.Aside (s t : State) : Prop where
  straps : t.straps = s.straps
  clock : t.time.clock = s.time.clock
  second : t.time.second = s.time.second
  keypad : t.keypad = s.keypad
  book : t.book = s.book
  share : t.share = s.share
  mask : t.grant.mask = s.grant.mask
  pointers : t.grant.pointers = s.grant.pointers
  count : t.count = s.count
  inStep : t.line.inStep = s.line.inStep
  listenOnly : t.line.listenOnly = s.line.listenOnly
  wire : t.line.wire = s.line.wire
  orders : ∀ j, t.orderAt j = s.orderAt j ∨ t.orderAt j = none

theorem State.Aside.refl (s : State) : s.Aside s := by constructor <;> simp

theorem State.Aside.trans {s t u : State} (h : s.Aside t) (h' : t.Aside u) : s.Aside u where
  straps := h'.straps.trans h.straps
  clock := h'.clock.trans h.clock
  second := h'.second.trans h.second
  keypad := h'.keypad.trans h.keypad
  book := h'.book.trans h.book
  share := h'.share.trans h.share
  mask := h'.mask.trans h.mask
  pointers := h'.pointers.trans h.pointers
  count := h'.count.trans h.count
  inStep := h'.inStep.trans h.inStep
  listenOnly := h'.listenOnly.trans h.listenOnly
  wire := h'.wire.trans h.wire
  orders j := by
    rcases h'.orders j with hj | hj
    · rw [hj]; exact h.orders j
    · exact .inr hj

/-- R3: an order held after such a row was held before it. -/
theorem State.Aside.heldOrders {s t : State} (h : s.Aside t) {n : Nat} (hn : n ∈ t.heldOrders) : n ∈ s.heldOrders := by
  obtain ⟨j, o, ho, rfl⟩ := (t.mem_heldOrders n).mp hn
  refine (s.mem_heldOrders _).mpr ⟨j, o, ?_, rfl⟩
  rcases h.orders j with hj | hj
  · rw [← hj, ho]
  · simp [hj] at ho

/-- What leaves the other blocks alone is aside where each record keeps its order part or gives it up. -/
theorem State.aside_modLocker (s : State) (i : Nat) {f : Locker → Locker} (hf : Locker.KeepsOrder f) :
    s.Aside (s.modLocker i f) := by
  constructor
  case orders =>
    intro j
    by_cases hj : j = i
    · subst hj
      cases hr : s.locker? j with
      | none => simp [State.orderAt, hr]
      | some r => simpa [State.orderAt, hr] using hf r
    · simp [State.orderAt, hj]
  all_goals simp

theorem State.aside_recompute (s : State) (i : Nat) : s.Aside (s.recompute i) := by
  have hgrant := s.ebbs_recompute i
  constructor
  case orders =>
    intro j
    left
    by_cases hj : j = i
    · subst hj
      cases hr : s.locker? j <;> simp [State.orderAt, hr]
    · simp [State.orderAt, hj]
  case mask => exact hgrant.mask
  case pointers => exact hgrant.pointers
  all_goals simp

/-- R11, R165: the driver's take moves a door cycle alone. -/
theorem State.aside_takeLatch (s : State) : s.Aside s.takeLatch := by
  constructor
  case orders =>
    intro j
    left
    rcases s.takeLatch_locker? j with h | ⟨r, hr, -, -, h⟩ <;> simp [State.orderAt, h]
    simp [hr]
  all_goals simp

/-- What leaves the records, too, as they were. -/
theorem State.aside_of_lockers {s t : State} (hlockers : t.lockers = s.lockers := by rfl)
    (hstraps : t.straps = s.straps := by rfl) (hclock : t.time.clock = s.time.clock := by rfl)
    (hsecond : t.time.second = s.time.second := by rfl) (hkeypad : t.keypad = s.keypad := by rfl)
    (hbook : t.book = s.book := by rfl) (hshare : t.share = s.share := by rfl)
    (hmask : t.grant.mask = s.grant.mask := by rfl) (hpointers : t.grant.pointers = s.grant.pointers := by rfl)
    (hin : t.line.inStep = s.line.inStep := by rfl) (hlisten : t.line.listenOnly = s.line.listenOnly := by rfl)
    (hwire : t.line.wire = s.line.wire := by rfl) : s.Aside t :=
  ⟨hstraps, hclock, hsecond, hkeypad, hbook, hshare, hmask, hpointers, by simp [State.count, hlockers], hin, hlisten,
    hwire, fun j => .inl (by simp [State.orderAt, State.locker?, hlockers])⟩

/-! Each operation, after such a run. -/

section
variable {s t : State} (h : s.Aside t)
include h

theorem State.Aside.modLocker (i : Nat) {f : Locker → Locker} (hf : Locker.KeepsOrder f) :
    s.Aside (t.modLocker i f) := h.trans (t.aside_modLocker i hf)

/-- A change of the record that leaves the order part as it is. -/
theorem State.Aside.modRecord (i : Nat) {f : Locker → Locker}
    (hf : ∀ r, (f r).order = r.order := by intro; rfl) : s.Aside (t.modLocker i f) := h.modLocker i fun r => .inl (hf r)

theorem State.Aside.recompute (i : Nat) : s.Aside (t.recompute i) := h.trans (t.aside_recompute i)

/-- The records taken in ascending index order. -/
theorem State.Aside.forEach {f : State → Nat → State} (hf : ∀ (u : State) i, u.Aside (f u i)) :
    s.Aside (t.forEach f) := State.forEach_keeps h fun u i _ hu => hu.trans (hf u i)

theorem State.Aside.recomputeAll : s.Aside t.recomputeAll := h.forEach State.aside_recompute

theorem State.Aside.takeLatch : s.Aside t.takeLatch := h.trans t.aside_takeLatch

theorem State.Aside.withLatch (x : Latch) : s.Aside (t.withLatch x) := h.trans State.aside_of_lockers

theorem State.Aside.withCip (x : Cip) : s.Aside (t.withCip x) := h.trans State.aside_of_lockers

theorem State.Aside.withLamp (x : LampChain) : s.Aside (t.withLamp x) := h.trans State.aside_of_lockers

theorem State.Aside.withPins (x : Pins) : s.Aside (t.withPins x) := h.trans State.aside_of_lockers

/-- R60, R66: the grant list moves alone. -/
theorem State.Aside.withGrant {x : Grant} (hmask : x.mask = t.grant.mask := by rfl)
    (hpointers : x.pointers = t.grant.pointers := by rfl) : s.Aside (t.withGrant x) :=
  h.trans (State.aside_of_lockers (hmask := hmask) (hpointers := hpointers))

theorem State.Aside.withTime {x : Timebase} (hclock : x.clock = t.time.clock := by rfl)
    (hsecond : x.second = t.time.second := by rfl) : s.Aside (t.withTime x) :=
  h.trans (State.aside_of_lockers (hclock := hclock) (hsecond := hsecond))

theorem State.Aside.withLine {l : Line} (hin : l.inStep = t.line.inStep) (hlisten : l.listenOnly = t.line.listenOnly)
    (hwire : l.wire = t.line.wire) : s.Aside (t.withLine l) :=
  h.trans (State.aside_of_lockers (hin := hin) (hlisten := hlisten) (hwire := hwire))

theorem State.Aside.modPins (i : Nat) (f : LockerPins → LockerPins) : s.Aside (t.modPins i f) := by
  unfold State.modPins
  split
  · exact h
  · exact h.withPins _

theorem State.Aside.notify (i : Nat) (e : NoticeEvent) (why : NoticeReason) (n : Nat) : s.Aside (t.notify i e why n) :=
  h.withLine (by simp) (by simp) (by simp)

theorem State.Aside.handOrder (f : OrderFrame) : s.Aside (t.handOrder f) :=
  h.withLine (by simp) (by simp) (by simp)

theorem State.Aside.reassert (i : Nat) : s.Aside (t.reassert i) := by
  rcases t.reassert_cases i with hr | ⟨r, o, -, -, hr⟩ <;> rw [hr]
  · exact h
  · exact h.handOrder _

theorem State.Aside.vacate (i : Nat) : s.Aside (t.vacate i) := h.modLocker i fun _ => .inr rfl

theorem State.Aside.retire (i : Nat) (why : RetireReason) : s.Aside (t.retire i why) := by
  cases hr : t.locker? i with
  | none => rwa [State.retire_none hr]
  | some r => rw [State.retire_some hr]; exact (h.modRecord i).notify ..

theorem State.Aside.strike (i : Nat) (why : FaultReason) : s.Aside (t.strike i why) := by
  cases hr : t.locker? i with
  | none => rwa [State.strike_none hr]
  | some r =>
    rw [State.strike_some hr]
    split
    · exact h
    · exact (h.modRecord i fun q => by simp).notify ..

theorem State.Aside.holdChecks (i : Nat) : s.Aside (t.holdChecks i) := by
  rcases t.holdChecks_cases i with hc | hc | hc <;> rw [hc]
  · exact h
  · exact h.retire ..
  · exact h.retire ..

theorem State.Aside.withdrawLatch (i : Nat) : s.Aside (t.withdrawLatch i) := h.withLatch _

theorem State.Aside.requestLatch (i : Nat) : s.Aside (t.requestLatch i) := by
  rw [State.requestLatch_eq]
  split
  · exact h.takeLatch
  · exact (h.withLatch _).takeLatch

theorem State.Aside.beginCycle (i : Nat) : s.Aside (t.beginCycle i) := by
  cases hr : t.locker? i with
  | none => simpa [State.beginCycle, hr] using h
  | some r =>
    rw [State.beginCycle_some hr]
    split
    · exact h.modRecord i
    · exact (h.modRecord i).requestLatch i

/-- R10: a record that changes its state as its door cycle begins. -/
theorem State.Aside.opening (i : Nat) {f : Locker → Locker}
    (hf : ∀ r, (f r).order = r.order := by intro; rfl) : s.Aside (((t.modLocker i f).beginCycle i).recompute i) :=
  ((h.modRecord i hf).beginCycle i).recompute i

theorem State.Aside.takeResult (i : Nat) : s.Aside (t.takeResult i) := by
  cases hr : t.locker? i with
  | none => simpa [State.takeResult, hr] using h
  | some r =>
    rcases State.takeResult_cases hr with ⟨-, ht⟩ | ⟨-, ht⟩ <;> rw [ht]
    · rcases State.probeFault_cases hr with ⟨-, hp⟩ | ⟨-, hp⟩ <;> rw [hp]
      · exact ((h.withdrawLatch i).modRecord i).strike ..
      · exact h.strike ..
    · rcases State.judgeReady_cases hr with ⟨-, hp⟩ | ⟨-, hp⟩ <;> rw [hp]
      · exact (h.modRecord i).notify ..
      · exact h

theorem State.Aside.sample (i raw : Nat) : s.Aside (t.sample i raw) :=
  ((h.modRecord i fun r => by simp).takeResult i).recompute i

theorem State.Aside.takeOpening (i : Nat) : s.Aside (t.takeOpening i) := by
  cases hr : t.locker? i with
  | none => simpa [State.takeOpening, hr] using h
  | some r =>
    rcases State.takeOpening_cases hr with ⟨-, ho⟩ | ⟨-, ho⟩ | ⟨-, ho⟩ | ⟨-, ho⟩ <;> rw [ho]
    · exact h.modRecord i
    · exact h
    · exact (h.withdrawLatch i).modRecord i
    · exact ((h.withdrawLatch i).modRecord i).strike ..

theorem State.Aside.judgeClose (i : Nat) (r : Locker) : s.Aside (t.judgeClose i r) := by
  rcases t.judgeClose_cases i r with ⟨-, hc⟩ | ⟨why, hc⟩ | ⟨e, hc⟩ | ⟨-, hc⟩ | ⟨-, hc⟩ | ⟨-, hc⟩ <;> rw [hc]
  · exact h
  · exact h.retire ..
  · exact (h.notify ..).vacate i
  · refine (h.modRecord i fun r => ?_).notify ..
    unfold Locker.phaseAtLoad
    repeat' split
    all_goals rfl
  · exact h.modRecord i
  · exact ((h.modRecord i).notify ..).holdChecks i

theorem State.Aside.takeClose (i : Nat) : s.Aside (t.takeClose i) := by
  cases hr : t.locker? i with
  | none => simpa [State.takeClose, hr] using h
  | some r =>
    rcases State.takeClose_cases hr with ⟨-, hc⟩ | ⟨-, hc⟩ <;> rw [hc]
    · exact h
    · exact (h.judgeClose i r).modRecord i

theorem State.Aside.trayChange (i : Nat) (present : Bool) : s.Aside (t.trayChange i present) := by
  unfold State.trayChange
  split
  · exact h
  · split
    · dsimp only
      split
      · exact (((h.modPins i _).modRecord i).strike ..).recompute i
      · exact (h.modPins i _).modRecord i
    · exact h

theorem State.Aside.checkLimits (i : Nat) : s.Aside (t.checkLimits i) := by
  cases hr : t.locker? i with
  | none => simpa [State.checkLimits, hr] using h
  | some r =>
    rw [State.checkLimits_eq hr]
    cases r.limitVerdict t.time.classes with
    | none => exact h
    | some why => exact h.retire i why

theorem State.Aside.judgeMinute (i : Nat) : s.Aside (t.judgeMinute i) := by
  unfold State.judgeMinute
  split
  · exact h
  · split
    · exact h
    · split
      · split
        · exact (h.notify ..).vacate i
        · exact h
      · split
        · exact h
        · split
          · exact h.retire ..
          · exact h
      · exact h

/-- Every record changed by one function. -/
theorem State.Aside.mapLockers {f : Locker → Locker} (hf : ∀ r, (f r).order = r.order) :
    s.Aside (t.withLockers (t.lockers.map f)) := by
  refine h.trans ⟨rfl, rfl, rfl, rfl, rfl, rfl, rfl, rfl, by simp [State.count], rfl, rfl, rfl, fun j => .inl ?_⟩
  rw [State.orderAt, State.withLockers_map_locker?]
  cases hr : t.locker? j <;> simp [State.orderAt, hr, hf]

end
end Sys2Proof.Machine
end

section
/-! PROOFS. The laws of the keypad, the Peer Table and the Order Book, block by block. -/

namespace Sys2Proof.Machine

/-! ### The keypad (R174, R175, R179, R180) -/

/-- R174, R175, R179, R180: the law of the keypad, which reads no other block. -/
abbrev Keypad.Lawful (k : Keypad) : Prop :=
  k.buffer.length ≤ 8 ∧ k.strikes.length ≤ 2 ∧ (k.entryTimer.isSome = true ↔ k.buffer ≠ []) ∧
  (k.overlong = true → k.buffer.length = 8) ∧ (k.lockout.isSome = true → k.buffer = [] ∧ k.strikes = [])

/-- R175: an entry that is taken, cleared or timed out leaves the strikes and the lockout. -/
theorem Keypad.Lawful.emptied {k : Keypad} (h : k.Lawful) : k.emptied.Lawful := by
  obtain ⟨-, hstrikes, -, -, hlock⟩ := h
  exact ⟨by simp [Keypad.emptied], hstrikes, by simp [Keypad.emptied], by simp [Keypad.emptied],
    fun hl => ⟨rfl, (hlock hl).2⟩⟩

/-- R174: a digit joins a buffer that has room, or marks a full one as overlong. -/
theorem Keypad.Lawful.digit {k : Keypad} (h : k.Lawful) (hopen : k.lockout = none) (d : Nat) : (k.digit d).Lawful := by
  obtain ⟨hbuffer, hstrikes, -, hlong, -⟩ := h
  unfold Keypad.digit
  split
  next hroom =>
    have hshort : k.overlong = true → False := fun hl => by have := hlong hl; omega
    exact ⟨by simp; omega, hstrikes, by simp, fun hl => (hshort hl).elim, by simp [hopen]⟩
  next hfull =>
    have h8 : k.buffer.length = 8 := by omega
    have hne : k.buffer ≠ [] := fun h0 => by simp [h0] at h8
    exact ⟨hbuffer, hstrikes, by simp [hne], fun _ => h8, by simp [hopen]⟩

theorem Keypad.Lawful.sound {k : Keypad} (h : k.Lawful) (b : Beep) : (k.sound b).Lawful := h

/-- R177, R179, R180: a third strike empties the list and locks an emptied keypad. -/
theorem Keypad.Lawful.refuse {k : Keypad} (h : k.Lawful) (hopen : k.lockout = none) : k.refuse.Lawful := by
  obtain ⟨hbuffer, hstrikes, hentry, hlong, -⟩ := h
  unfold Keypad.refuse
  split
  · exact ⟨by simp [Keypad.sound, Keypad.emptied], by simp [Keypad.sound, Keypad.emptied],
      by simp [Keypad.sound, Keypad.emptied], by simp [Keypad.sound, Keypad.emptied], fun _ => ⟨rfl, rfl⟩⟩
  · exact ⟨hbuffer, by simp [Keypad.sound]; omega, hentry, hlong, by simp [Keypad.sound, hopen]⟩

theorem Keypad.Lawful.outcome {k : Keypad} (h : k.Lawful) (hopen : k.lockout = none) (m : MatchResult) :
    (k.outcome m).Lawful := by
  cases m
  case noMatch => exact h.refuse hopen
  all_goals exact h.sound _

/-- R179: the oldest strike leaves the list. -/
theorem Keypad.Lawful.dropStrike {k : Keypad} (h : k.Lawful) :
    ({ k with strikes := k.strikes.drop 1 } : Keypad).Lawful := by
  obtain ⟨hbuffer, hstrikes, hentry, hlong, hlock⟩ := h
  exact ⟨hbuffer, by simp; omega, hentry, hlong, fun hl => ⟨(hlock hl).1, by simp [(hlock hl).2]⟩⟩

/-- R180: a lockout ends. -/
theorem Keypad.Lawful.unlock {k : Keypad} (h : k.Lawful) : ({ k with lockout := none } : Keypad).Lawful := by
  obtain ⟨hbuffer, hstrikes, hentry, hlong, -⟩ := h
  exact ⟨hbuffer, hstrikes, hentry, hlong, by simp⟩

/-- R175, R179, R180: the timers of the keypad run. -/
theorem Keypad.Lawful.tick {k : Keypad} (h : k.Lawful) (keys : List Key) : (k.tick keys).Lawful := by
  obtain ⟨-, hbuffer, hlong, hentry, hstrikes, hlock, -⟩ := k.tick_fields keys
  simpa [Keypad.Lawful, hbuffer, hlong, hentry, hstrikes, hlock] using h

theorem Keypad.lawful_restarted (keysDown : Bool) : (Keypad.restarted keysDown).Lawful := by
  cases keysDown <;> decide

/-! ### The Peer Table (R75 to R79) -/

/-- R75, R76, R79: the law of the Peer Table of this station. -/
abbrev PeersFit (own : Nat) (peers : List Peer) : Prop :=
  peers.length ≤ Config.peerCapacity ∧ (peers.map Peer.station).Pairwise (· < ·) ∧
  ∀ p ∈ peers, p.station ≠ own ∧ p.Fits

/-- R75: what leaves entries out keeps the law. -/
theorem PeersFit.sublist {own : Nat} {peers rest : List Peer} (h : PeersFit own peers) (hs : rest.Sublist peers) :
    PeersFit own rest :=
  ⟨hs.length_le.trans h.1, h.2.1.sublist (hs.map _), fun p hp => h.2.2 p (hs.subset hp)⟩

/-- R79: an entry below the count of 20 fits after a tick, and is STALE from a count of 4. -/
theorem Peer.Fits.aged {p : Peer} (h : p.Fits) (hcount : p.aged.silence < 20) : p.aged.Fits := by
  obtain ⟨hf, hd, hk, hw, hw', ha, -, hstale⟩ := h
  refine ⟨hf, hd, hk, hw, hw', ha, hcount, ?_⟩
  simp only [Peer.aged, hstale, ← Bool.decide_or]
  exact decide_eq_decide.mpr (by omega)

/-- R79: the table after a tick. -/
theorem PeersFit.aged {own : Nat} {peers : List Peer} (h : PeersFit own peers) : PeersFit own (agePeers peers) := by
  obtain ⟨hlen, hsorted, hall⟩ := h
  have hstation : (peers.map Peer.aged).map Peer.station = peers.map Peer.station := by simp [Peer.aged]
  refine ⟨(List.length_filter_le ..).trans (by simpa using hlen),
    (hstation ▸ hsorted).sublist (List.filter_sublist.map _), fun p hp => ?_⟩
  simp only [agePeers, List.mem_filter, List.mem_map, decide_eq_true_eq] at hp
  obtain ⟨⟨q, hq, rfl⟩, hcount⟩ := hp
  exact ⟨(hall q hq).1, (hall q hq).2.aged hcount⟩

/-- R76: the clamped figures of a DEMAND fit. -/
theorem clampedPeer_fits (src seq d f k w a : Nat) (trip : Bool) : (clampedPeer src seq d f k w a trip).Fits := by
  refine ⟨?_, ?_, ?_, ?_, ?_, ?_, by simp [clampedPeer], by simp [clampedPeer]⟩ <;> simp only [clampedPeer] <;> omega

section
variable {p : Peer} {peers : List Peer}

/-- R78: an entry takes the place of its station's, if any. -/
theorem mem_insertPeer (hsorted : (peers.map Peer.station).Pairwise (· < ·)) (x : Peer) :
    x ∈ insertPeer p peers ↔ x = p ∨ (x ∈ peers ∧ x.station ≠ p.station) := by
  induction peers with
  | nil => simp [insertPeer]
  | cons q rest ih =>
    obtain ⟨hq, hrest⟩ := List.pairwise_cons.mp hsorted
    have hafter : ∀ y ∈ rest, q.station < y.station := fun y hy => hq _ (List.mem_map_of_mem hy)
    unfold insertPeer
    split
    next hlt =>
      have hne : ∀ y ∈ q :: rest, y.station ≠ p.station := by
        intro y hy
        rcases List.mem_cons.mp hy with rfl | hy
        · omega
        · have := hafter y hy; omega
      simp only [List.mem_cons (a := x) (b := p)]
      exact or_congr_right ⟨fun hx => ⟨hx, hne x hx⟩, And.left⟩
    · split
      next heq =>
        have hne : ∀ y ∈ rest, y.station ≠ p.station := fun y hy => by have := hafter y hy; omega
        simp only [List.mem_cons]
        grind
      next hne =>
        simp only [List.mem_cons, ih hrest]
        grind

/-- R75: the stations stay in their order. -/
theorem insertPeer_sorted (hsorted : (peers.map Peer.station).Pairwise (· < ·)) :
    ((insertPeer p peers).map Peer.station).Pairwise (· < ·) := by
  induction peers with
  | nil => simp [insertPeer]
  | cons q rest ih =>
    obtain ⟨hq, hrest⟩ := List.pairwise_cons.mp hsorted
    have hafter : ∀ y ∈ rest, q.station < y.station := fun y hy => hq _ (List.mem_map_of_mem hy)
    unfold insertPeer
    split
    next hlt =>
      refine List.pairwise_cons.mpr ⟨fun n hn => ?_, hsorted⟩
      obtain ⟨y, hy, rfl⟩ := List.mem_map.mp hn
      rcases List.mem_cons.mp hy with rfl | hy
      · exact hlt
      · exact hlt.trans (hafter y hy)
    · split
      next heq => exact List.pairwise_cons.mpr ⟨fun n hn => heq ▸ hq n hn, hrest⟩
      next hlt hne =>
        refine List.pairwise_cons.mpr ⟨fun n hn => ?_, ih hrest⟩
        obtain ⟨y, hy, rfl⟩ := List.mem_map.mp hn
        rcases (mem_insertPeer hrest y).mp hy with rfl | ⟨hy, -⟩
        · show q.station < y.station
          omega
        · exact hafter y hy

/-- R78: a new station's entry makes the table longer by one, and a known station's does not. -/
theorem insertPeer_length_le (p : Peer) (peers : List Peer) : (insertPeer p peers).length ≤ peers.length + 1 := by
  induction peers with
  | nil => simp [insertPeer]
  | cons q rest ih =>
    unfold insertPeer
    split
    · simp
    · split
      · simp
      · simpa using ih

theorem insertPeer_length_known (hsorted : (peers.map Peer.station).Pairwise (· < ·)) {q : Peer} (hq : q ∈ peers)
    (hp : q.station = p.station) : (insertPeer p peers).length = peers.length := by
  induction peers with
  | nil => simp at hq
  | cons y rest ih =>
    obtain ⟨hy, hrest⟩ := List.pairwise_cons.mp hsorted
    unfold insertPeer
    rcases List.mem_cons.mp hq with rfl | hq
    · simp [hp]
    · have hlt : y.station < p.station := hp ▸ hy _ (List.mem_map_of_mem hq)
      rw [if_neg (by omega), if_neg (by omega), List.length_cons, ih hrest hq, List.length_cons]

/-- R78: a table that is not empty gives up one of its entries, with the highest silence count and then the highest
station. -/
theorem peerToDrop_cases (peers : List Peer) : (peers = [] ∧ peerToDrop peers = none) ∨
    ∃ q ∈ peers, peerToDrop peers = some q ∧
      ∀ x ∈ peers, x.silence < q.silence ∨ (x.silence = q.silence ∧ x.station ≤ q.station) := by
  induction peers with
  | nil => exact .inl ⟨rfl, rfl⟩
  | cons p rest ih =>
    right
    rcases ih with ⟨rfl, h⟩ | ⟨q, hq, h, hmax⟩
    · exact ⟨p, by simp, by simp [peerToDrop], by simp⟩
    · by_cases hb : q.goesBefore p = true
      · refine ⟨q, by simp [hq], by simp [peerToDrop, h, hb], fun x hx => ?_⟩
        rcases List.mem_cons.mp hx with rfl | hx
        · simp [Peer.goesBefore] at hb
          omega
        · exact hmax x hx
      · refine ⟨p, by simp, by simp [peerToDrop, h, hb], fun x hx => ?_⟩
        simp [Peer.goesBefore] at hb
        rcases List.mem_cons.mp hx with rfl | hx
        · omega
        · have := hmax x hx
          omega

/-- R78: the table that an entry joins: the table itself, or a full one without the entry that it gives up. -/
theorem enterPeer_cases (p : Peer) (peers : List Peer) :
    (((∃ q ∈ peers, q.station = p.station) ∨ peers.length < Config.peerCapacity) ∧
      enterPeer peers p = insertPeer p peers) ∨
    ((∀ q ∈ peers, q.station ≠ p.station) ∧ Config.peerCapacity ≤ peers.length ∧
      ∃ q ∈ peers, (∀ x ∈ peers, x.silence < q.silence ∨ (x.silence = q.silence ∧ x.station ≤ q.station)) ∧
        enterPeer peers p = insertPeer p (peers.filter fun x => x.station != q.station)) := by
  have hknown : (peers.any fun q => q.station == p.station) = true ↔ ∃ q ∈ peers, q.station = p.station := by simp
  unfold enterPeer
  split
  next h => exact .inl ⟨h.imp_left hknown.mp, rfl⟩
  next h =>
    obtain ⟨hnew, hfull⟩ := not_or.mp h
    right
    rcases peerToDrop_cases peers with ⟨rfl, -⟩ | ⟨q, hq, hd, hmax⟩
    · simp [Config.peerCapacity] at hfull
    · exact ⟨fun q hq hs => hnew (hknown.mpr ⟨q, hq, hs⟩), by omega, q, hq, hmax, by rw [hd]⟩

/-- R75, R78: the table after an entry has joined it. -/
theorem PeersFit.enter {own : Nat} (h : PeersFit own peers) (hown : p.station ≠ own) (hp : p.Fits) :
    PeersFit own (enterPeer peers p) := by
  have hjoin : ∀ rest, PeersFit own rest → (insertPeer p rest).length ≤ Config.peerCapacity →
      PeersFit own (insertPeer p rest) := by
    intro rest hr hlen
    refine ⟨hlen, insertPeer_sorted hr.2.1, fun x hx => ?_⟩
    rcases (mem_insertPeer hr.2.1 x).mp hx with rfl | ⟨hx, -⟩
    · exact ⟨hown, hp⟩
    · exact hr.2.2 x hx
  have hle := fun rest : List Peer => insertPeer_length_le p rest
  rcases enterPeer_cases p peers with ⟨⟨q, hq, hs⟩ | hroom, he⟩ | ⟨-, -, q, hq, -, he⟩ <;> rw [he]
  · exact hjoin peers h ((insertPeer_length_known h.2.1 hq hs).trans_le h.1)
  · exact hjoin peers h ((hle peers).trans (by omega))
  · have hshort : (peers.filter fun x => x.station != q.station).length < peers.length :=
      List.length_filter_lt_length_iff_exists.mpr ⟨q, hq, by simp⟩
    exact hjoin _ (h.sublist List.filter_sublist) ((hle _).trans (by have := h.1; omega))

end

/-! ### The Order Book (R99, R101) -/

/-- R99, R101: the law of a book beside these held orders. -/
abbrev BookFits (held : List Nat) (book : List BookEntry) : Prop :=
  book.length ≤ Config.bookCapacity ∧ (book.map BookEntry.order).Nodup ∧ (book.map BookEntry.candidate).Nodup ∧
  ∀ e ∈ book, e.order ∉ held

/-- R99: what leaves entries out, while no other order is held, keeps the law. -/
theorem BookFits.sublist {held held' : List Nat} {book rest : List BookEntry} (h : BookFits held book)
    (hs : rest.Sublist book) (hheld : ∀ n ∈ held', n ∈ held) : BookFits held' rest :=
  ⟨hs.length_le.trans h.1, (hs.map _).nodup h.2.1, (hs.map _).nodup h.2.2.1,
    fun e he hn => h.2.2.2 e (hs.subset he) (hheld _ hn)⟩

/-- R106: a change of the entries that leaves their orders and candidates. -/
theorem BookFits.map {held : List Nat} {book : List BookEntry} {f : BookEntry → BookEntry}
    (h : BookFits held book) (ho : ∀ e, (f e).order = e.order) (hc : ∀ e, (f e).candidate = e.candidate) :
    BookFits held (book.map f) := by
  have horders : (book.map f).map BookEntry.order = book.map BookEntry.order := by simp [ho]
  have hcandidates : (book.map f).map BookEntry.candidate = book.map BookEntry.candidate := by simp [hc]
  refine ⟨by simpa using h.1, horders ▸ h.2.1, hcandidates ▸ h.2.2.1, fun e he => ?_⟩
  obtain ⟨x, hx, rfl⟩ := List.mem_map.mp he
  rw [ho]
  exact h.2.2.2 x hx

/-- An entry joins the book in its place. -/
theorem insertEntry_perm (e : BookEntry) (book : List BookEntry) : (insertEntry e book).Perm (e :: book) := by
  induction book with
  | nil => exact .refl _
  | cons q rest ih =>
    unfold insertEntry
    split
    · exact .refl _
    · exact (ih.cons q).trans (.swap ..)

/-- R99, R101, R103: an entry for a new order and a new candidate joins a book with room. -/
theorem BookFits.insert {held : List Nat} {book : List BookEntry} {e : BookEntry} (h : BookFits held book)
    (hroom : book.length < Config.bookCapacity) (ho : ∀ x ∈ book, x.order ≠ e.order)
    (hc : ∀ x ∈ book, x.candidate ≠ e.candidate) (hheld : e.order ∉ held) : BookFits held (insertEntry e book) := by
  have hperm := insertEntry_perm e book
  refine ⟨by rw [hperm.length_eq]; exact hroom, (hperm.map _).nodup_iff.mpr ?_, (hperm.map _).nodup_iff.mpr ?_,
    fun x hx => ?_⟩
  · exact List.nodup_cons.mpr ⟨fun hm => by obtain ⟨x, hx, hxe⟩ := List.mem_map.mp hm; exact ho x hx hxe, h.2.1⟩
  · exact List.nodup_cons.mpr ⟨fun hm => by obtain ⟨x, hx, hxe⟩ := List.mem_map.mp hm; exact hc x hx hxe, h.2.2.1⟩
  · rcases List.mem_cons.mp (hperm.mem_iff.mp hx) with rfl | hx
    · exact hheld
    · exact h.2.2.2 x hx

end Sys2Proof.Machine
end

section
/-! PROOFS. The relation `KeepsLaws`: what keeps the laws of the line and the book (O13) and of the Peer Table, the
keypad and the ranges (O14). -/

namespace Sys2Proof.Machine

/-- What leads from the first state to the second keeps each of the five laws. -/
structure State.KeepsLaws (s t : State) : Prop where
  silent : s.SilentLaw → t.SilentLaw
  book : s.BookLaw → t.BookLaw
  peer : s.PeerLaw → t.PeerLaw
  keypad : s.KeypadLaw → t.KeypadLaw
  range : s.RangeLaw → t.RangeLaw

theorem State.KeepsLaws.refl (s : State) : s.KeepsLaws s := ⟨id, id, id, id, id⟩

theorem State.KeepsLaws.trans {s t u : State} (h : s.KeepsLaws t) (h' : t.KeepsLaws u) : s.KeepsLaws u :=
  ⟨h'.silent ∘ h.silent, h'.book ∘ h.book, h'.peer ∘ h.peer, h'.keypad ∘ h.keypad, h'.range ∘ h.range⟩

theorem State.Aside.keepsLaws {s t : State} (h : s.Aside t) : s.KeepsLaws t where
  silent hs := by simpa only [State.SilentLaw, h.inStep, h.listenOnly, h.share, h.wire, h.book] using hs
  book hs := by
    have := BookFits.sublist (held' := t.heldOrders) hs (.refl _) fun n => h.heldOrders
    rwa [← h.book] at this
  peer hs := by simpa only [State.PeerLaw, State.own, h.share, h.straps] using hs
  keypad hs := by simpa only [State.KeypadLaw, h.keypad] using hs
  range hs := by
    simpa only [State.RangeLaw, h.clock, h.second, h.mask, h.share, h.pointers, h.count] using hs

/-- R82: a change of the line that takes the station neither out of its silence nor on the wire. -/
theorem State.keepsLaws_withLine (s : State) {l : Line}
    (hl : l.inStep = false ∨ l.listenOnly = true → (s.line.inStep = false ∨ s.line.listenOnly = true) ∧
      (s.line.wire = none → l.wire = none)) : s.KeepsLaws (s.withLine l) where
  silent hs := ⟨fun hq => ⟨(hs.1 (hl hq).1).1, (hl hq).2 (hs.1 (hl hq).1).2⟩, hs.2⟩
  book := id
  peer := id
  keypad := id
  range := id

/-- The same of a line that stays in its step and mode, with nothing more on the wire. -/
theorem State.keepsLaws_withLine_same (s : State) {l : Line} (hin : l.inStep = s.line.inStep := by rfl)
    (hlisten : l.listenOnly = s.line.listenOnly := by rfl) (hwire : s.line.wire = none → l.wire = none := by exact id) :
    s.KeepsLaws (s.withLine l) :=
  s.keepsLaws_withLine fun hq => ⟨by rwa [← hin, ← hlisten], hwire⟩

/-- R174 to R180: a change of the keypad. -/
theorem State.keepsLaws_withKeypad (s : State) {k : Keypad} (hk : s.keypad.Lawful → k.Lawful := by exact id) :
    s.KeepsLaws (s.withKeypad k) := ⟨id, id, id, hk, id⟩

/-- R99, R106, R109: a change of the book. -/
theorem State.keepsLaws_withBook (s : State) {b : List BookEntry}
    (hsilent : s.share.state = .isolated → s.book = [] → b = [])
    (hb : BookFits s.heldOrders s.book → BookFits s.heldOrders b) : s.KeepsLaws (s.withBook b) where
  silent hs := ⟨hs.1, fun hi => hsilent hi (hs.2 hi)⟩
  book := hb
  peer := id
  keypad := id
  range := id

/-- A change of the Share Unit that leaves its state. -/
theorem State.keepsLaws_withShare (s : State) {x : Share}
    (hstate : x.state = .isolated ↔ s.share.state = .isolated := by rfl)
    (hpeers : PeersFit s.own s.share.peers → PeersFit s.own x.peers := by exact id)
    (hseq : s.share.seq < 256 → x.seq < 256 := by exact id) :
    s.KeepsLaws (s.withShare x) where
  silent hs := ⟨fun hq => ⟨hstate.mpr (hs.1 hq).1, (hs.1 hq).2⟩, fun hi => hs.2 (hstate.mp hi)⟩
  book := id
  peer := hpeers
  keypad := id
  range hs := by
    obtain ⟨hclock, hsecond, hmask, hs, hpointers⟩ := hs
    exact ⟨hclock, hsecond, hmask, hseq hs, hpointers⟩

/-- R186, R187: a change of the clock and the second count. -/
theorem State.keepsLaws_withTime (s : State) {x : Timebase}
    (hclock : (∀ m ∈ s.time.clock, m < 1440) → ∀ m ∈ x.clock, m < 1440)
    (hsecond : s.time.second < 60 → x.second < 60) : s.KeepsLaws (s.withTime x) where
  silent := id
  book := id
  peer := id
  keypad := id
  range hs := ⟨hclock hs.1, hsecond hs.2.1, hs.2.2⟩

/-- R57, R61, R64: a change of the mask and the pointers. -/
theorem State.keepsLaws_withGrant (s : State) {x : Grant} (hmask : s.grant.mask < 8 → x.mask < 8 := by exact id)
    (hlen : s.grant.pointers.length = 7 → x.pointers.length = 7 := by exact id)
    (hp : (∀ p ∈ s.grant.pointers, p ≤ s.count) → ∀ p ∈ x.pointers, p ≤ s.count := by exact id) :
    s.KeepsLaws (s.withGrant x) where
  silent := id
  book := id
  peer := id
  keypad := id
  range hs := by
    obtain ⟨hclock, hsecond, hm, hseq, hl, hps⟩ := hs
    exact ⟨hclock, hsecond, hmask hm, hseq, hlen hl, hp hps⟩

/-! ### Isolation, falls and resets (R82, R110, R158, R191) -/

/-- R82, R110: an isolation drops the open entries. -/
theorem State.keepsLaws_isolate (s : State) : s.KeepsLaws s.isolate := by
  rcases s.isolate_cases with ⟨-, h⟩ | ⟨-, h⟩ <;> rw [h]
  · exact .refl s
  · exact ⟨fun hs => ⟨fun hq => ⟨rfl, (hs.1 hq).2⟩, fun _ => rfl⟩,
      fun hs => BookFits.sublist hs (List.nil_sublist _) fun _ => id, id, id, id⟩

/-- R82, R110, R129, R142: a station that falls silent has nothing on the wire, and is isolated in the same action. -/
theorem State.keepsLaws_fall (s : State) {l : Line} (hwire : l.wire = none) : s.KeepsLaws (s.withLine l).isolate :=
  have h := (s.withLine l).keepsLaws_isolate
  { silent := fun hs => by
      rcases (s.withLine l).isolate_cases with ⟨hi, h⟩ | ⟨-, h⟩ <;> rw [h]
      · exact ⟨fun _ => ⟨hi, hwire⟩, hs.2⟩
      · exact ⟨fun _ => ⟨rfl, hwire⟩, fun _ => rfl⟩
    book := h.book
    peer := h.peer
    keypad := h.keypad
    range := h.range }

/-- R28, R133: the notices of a warm restart leave the wire. -/
theorem Line.foldl_pushNotice_wire (l : Line) (fs : List NoticeFrame) : (fs.foldl Line.pushNotice l).wire = l.wire := by
  induction fs generalizing l with
  | nil => rfl
  | cons f fs ih => rw [List.foldl_cons, ih]; simp

theorem bookFits_nil (held : List Nat) : BookFits held [] := by simp [BookFits]

theorem peersFit_nil (own : Nat) : PeersFit own [] := by simp [PeersFit]

/-- R57, R61: the pointers as a reset leaves them. -/
theorem le_of_mem_replicate_zero {p n count : Nat} (h : p ∈ List.replicate n 0) : p ≤ count := by
  rw [List.eq_of_mem_replicate h]
  exact Nat.zero_le _

/-- R81, R145, R158, R181: a warm restart empties what the laws read, or sets it in its range. -/
theorem State.keepsLaws_warmRestart (s : State) : s.KeepsLaws s.warmRestart where
  silent _ := by
    have hwire : s.warmRestart.line.wire = none := by
      rw [s.warmRestart_line, Line.foldl_pushNotice_wire]; rfl
    exact ⟨fun _ => ⟨by simp [Share.restarted], hwire⟩, fun _ => by simp⟩
  book _ := by
    have := bookFits_nil s.warmRestart.heldOrders
    rwa [← s.warmRestart_fields.2.2.2.2.2.2.2.2.2.2.1] at this
  peer _ := by simp [State.PeerLaw, Share.restarted]
  keypad _ := by
    have := Keypad.lawful_restarted (!s.pins.keys.isEmpty)
    simpa only [State.KeypadLaw, State.warmRestart_fields] using this
  range hs := by
    obtain ⟨hclock, hsecond, -, hseq, -⟩ := hs
    simp only [State.RangeLaw, State.warmRestart_fields, State.warmRestart_grant]
    exact ⟨hclock, hsecond, Nat.zero_lt_succ _, hseq, rfl, fun p => le_of_mem_replicate_zero⟩

/-- R57, R61, R75, R80, R144, R181, R186, R191: so does a power-on reset. -/
theorem State.keepsLaws_powerOn (s : State) (p : Straps) : s.KeepsLaws (s.powerOn p) where
  silent _ := ⟨fun _ => ⟨rfl, rfl⟩, fun _ => rfl⟩
  book _ := bookFits_nil _
  peer _ := peersFit_nil _
  keypad _ := (by decide : Keypad.init.Lawful)
  range _ := ⟨by simp [State.powerOn, Timebase.init], Nat.zero_lt_succ _, Nat.zero_lt_succ _, Nat.zero_lt_succ _, rfl,
    fun p => le_of_mem_replicate_zero⟩

/-! ### Each operation, after a run that keeps the laws -/

section
variable {s t : State} (h : s.KeepsLaws t)
include h

theorem State.KeepsLaws.aside {u : State} (hu : t.Aside u) : s.KeepsLaws u := h.trans hu.keepsLaws

theorem State.KeepsLaws.withCip (c : Cip) : s.KeepsLaws (t.withCip c) := h.aside ((State.Aside.refl t).withCip c)

theorem State.KeepsLaws.reportAll (fs : List ReplyFrame) : s.KeepsLaws (fs.foldl State.reportReply t) := by
  rcases t.reportAll_cases fs with hr | hr <;> rw [hr]
  · exact h
  · exact h.trans t.keepsLaws_warmRestart

theorem State.KeepsLaws.reportReply (f : ReplyFrame) : s.KeepsLaws (t.reportReply f) := h.reportAll [f]

theorem State.KeepsLaws.handReply (f : ReplyFrame) : s.KeepsLaws (t.handReply f) := by
  rcases t.handReply_cases f with ⟨-, -, hr⟩ | ⟨-, hr⟩ <;> rw [hr]
  · exact h.aside ((State.Aside.refl t).withLine rfl rfl rfl)
  · exact h.reportReply f

theorem State.KeepsLaws.answer (c : CommandFrame) (a : Answer) : s.KeepsLaws (t.answer c a) := by
  unfold State.answer
  split
  · exact h
  · exact h.handReply _

theorem State.KeepsLaws.answerNow (c : CommandFrame) (f : ReplyFrame) : s.KeepsLaws (t.answerNow c f) := by
  unfold State.answerNow
  split
  · exact h.handReply f
  · exact h

/-- R109, R111: an entry leaves the book. -/
theorem State.KeepsLaws.dropEntry (order : Nat) : s.KeepsLaws (t.dropEntry order) :=
  h.trans (t.keepsLaws_withBook (fun _ hb => by simp [hb]) fun hb => hb.sublist List.filter_sublist fun _ => id)

/-- R106: a rival pair is recorded in its entry. -/
theorem State.KeepsLaws.recordRival (order : Nat) (p : ScorePair) : s.KeepsLaws (t.recordRival order p) := by
  have hrecord : ∀ e : BookEntry, (e.record p).order = e.order ∧ (e.record p).candidate = e.candidate := by
    intro e
    unfold BookEntry.record
    split
    · exact ⟨rfl, rfl⟩
    · split <;> exact ⟨rfl, rfl⟩
  refine h.trans (t.keepsLaws_withBook (fun _ hb => by simp [hb]) fun hb => hb.map (fun e => ?_) fun e => ?_)
  · split
    · exact (hrecord e).1
    · rfl
  · split
    · exact (hrecord e).2
    · rfl

/-- R84: a completed DEMAND makes an ISOLATED bank JOINING in step alone. -/
theorem State.KeepsLaws.demandCompleted : s.KeepsLaws t.demandCompleted := by
  refine h.trans ?_
  rcases t.demandCompleted_cases with ⟨-, hin, hlisten, hd⟩ | ⟨-, hd⟩ <;> rw [hd]
  · exact ⟨fun _ => ⟨by simp [hin, hlisten], by simp⟩, id, id, id, id⟩
  · exact t.keepsLaws_withShare

end

/-- R149, R150: the processor takes a command and answers it. -/
theorem State.keepsLaws_takeVerb (s : State) (isVerb : CommandFrame → Bool)
    {rule : CommandFrame → State → State × Answer} (hr : ∀ c (u : State), u.KeepsLaws (rule c u).1) :
    s.KeepsLaws (s.takeVerb isVerb rule) := by
  rcases s.takeVerb_cases isVerb rule with h | ⟨c, rest, -, -, -, h⟩ <;> rw [h]
  · exact .refl s
  · exact (((State.KeepsLaws.refl s).withCip _).trans (hr c _)).answer c _

end Sys2Proof.Machine
end

section
/-! PROOFS. The rows of the records, the orders and the line keep the five laws. -/

namespace Sys2Proof.Machine

/-! ### Rows of the records -/

section
variable {s t : State} {i : Nat}

theorem aside_execProbeSample {raw : Nat} (h : execProbeSample i raw s = .next t) : s.Aside t := by
  obtain rfl := Host.Outcome.next.inj h
  split
  · exact .refl s
  · split
    · exact ((State.Aside.refl s).modPins i _).sample i raw
    · exact .refl s

theorem aside_execFirstSweepReading {raw : Nat} {door tray : Bool}
    (h : execFirstSweepReading i door tray raw s = .next t) : s.Aside t := by
  obtain rfl := Host.Outcome.next.inj h
  split
  · exact .refl s
  · split
    · exact .refl s
    · have hread := (((State.Aside.refl s).modPins i fun _ => ⟨door, tray, raw⟩).modRecord i
        (f := fun r => r.firstRead door tray) fun r => by cases door <;> rfl)
      dsimp only
      split
      · exact (hread.retire i _).sample i raw
      · exact hread.sample i raw

theorem aside_execDoorOpened (h : execDoorOpened i s = .next t) : s.Aside t := by
  obtain rfl := Host.Outcome.next.inj h
  split
  · exact .refl s
  · split
    · exact ((((State.Aside.refl s).modPins i _).modRecord i).takeOpening i).recompute i
    · exact .refl s

theorem aside_execDoorClosed (h : execDoorClosed i s = .next t) : s.Aside t := by
  obtain rfl := Host.Outcome.next.inj h
  split
  · exact .refl s
  · split
    · exact ((((State.Aside.refl s).modPins i _).modRecord i).takeClose i).recompute i
    · exact .refl s

theorem aside_execAjar (h : execAjar i s = .next t) : s.Aside t := by
  obtain rfl := Host.Outcome.next.inj h
  split
  · exact .refl s
  · split
    · exact ((State.Aside.refl s).modRecord i).notify ..
    · exact .refl s

theorem aside_execOpenWaitExpired (h : execOpenWaitExpired i s = .next t) : s.Aside t := by
  obtain rfl := Host.Outcome.next.inj h
  split
  · exact .refl s
  · split
    · split
      · exact ((State.Aside.refl s).modRecord i).requestLatch i
      · exact (((State.Aside.refl s).modRecord i).strike ..).recompute i
    · exact .refl s

theorem aside_execPulseEnded (h : execPulseEnded s = .next t) : s.Aside t := by
  obtain rfl := Host.Outcome.next.inj h
  split
  · exact .refl s
  · refine (((State.Aside.refl s).withLatch _).modRecord _ fun r => ?_).takeLatch
    unfold Locker.pulseEnd
    split <;> rfl

end

/-! ### Ticks of the Timebase (R186) -/

/-- R186: a minute follows 23:59 with 0:00. -/
theorem Timebase.minuteTick_clock {b : Timebase} {m : Nat} (h : m ∈ b.minuteTick.clock) : m < 1440 := by
  obtain ⟨n, -, rfl⟩ := Option.map_eq_some_iff.mp h
  exact Nat.mod_lt _ (by decide)

theorem Timebase.secondTick_second (b : Timebase) : b.secondTick.second < 60 := by
  simp only [Timebase.secondTick]
  split <;> omega

theorem keepsLaws_execSecondTick {s t : State} (h : execSecondTick s = .next t) : s.KeepsLaws t := by
  obtain rfl := Host.Outcome.next.inj h
  have hclock : s.KeepsLaws (s.withTime s.time.secondTick) :=
    s.keepsLaws_withTime id fun _ => s.time.secondTick_second
  have hcounted := (State.Aside.refl (s.withTime s.time.secondTick)).mapLockers
    (f := fun r => r.counted s.time.classes) fun r => by simp
  have hchecked := hcounted.forEach fun u i => (State.Aside.refl u).checkLimits i
  exact hclock.aside (hchecked.mapLockers fun r => by simp).recomputeAll

theorem keepsLaws_execMinuteTick {s t : State} (h : execMinuteTick s = .next t) : s.KeepsLaws t := by
  obtain rfl := Host.Outcome.next.inj h
  have hclock : s.KeepsLaws (s.withTime s.time.minuteTick) :=
    s.keepsLaws_withTime (fun _ m => Timebase.minuteTick_clock) fun _ => Nat.zero_lt_succ _
  exact hclock.aside ((State.Aside.refl _).forEach fun u i => (State.Aside.refl u).judgeMinute i).recomputeAll

theorem keepsLaws_execTime {s t : State} {src minute second : Nat} (h : execTime src minute second s = .next t) :
    s.KeepsLaws t := by
  obtain rfl := Host.Outcome.next.inj h
  split
  next hrange =>
    have hclock : s.KeepsLaws (s.withTime { s.time with clock := some minute, second := second }) :=
      s.keepsLaws_withTime (fun _ m hm => by simp at hm; omega) fun _ => by dsimp only; omega
    exact hclock.aside (State.Aside.refl _).recomputeAll
  · exact .refl s

/-! ### Orders (R101 to R118) -/

/-- R102: a bank that is ISOLATED, or whose book is full, makes no bid. -/
theorem State.not_isolated_of_mayBid {s : State} {cls collectBy : Nat} (h : s.mayBid cls collectBy = true) :
    s.share.state ≠ .isolated ∧ s.book.length < Config.bookCapacity := by
  simp only [State.mayBid, Bool.and_eq_true, bne_iff_ne, decide_eq_true_eq] at h
  exact ⟨h.1.1.1.1.1, h.2⟩

/-- R103: the candidate of a new entry is that of no other. -/
theorem State.candidate_new {s : State} {i : Nat} (h : s.candidate? = some i) : ∀ e ∈ s.book, e.candidate ≠ i := by
  have hq : s.qualifies i = true := (List.mem_filter.mp (State.mem_of_warmest h)).2
  intro e he hc
  unfold State.qualifies at hq
  split at hq
  · simp at hq
  · have : s.isCandidate i = true := List.any_eq_true.mpr ⟨e, he, by simp [hc]⟩
    simp [this] at hq

/-- R3: an order that the search does not find is not held. -/
theorem State.notMem_heldOrders {s : State} {n : Nat} (h : s.holder? n = none) : n ∉ s.heldOrders := by
  intro hn
  obtain ⟨j, o, ho, rfl⟩ := (s.mem_heldOrders n).mp hn
  obtain ⟨r, hr, ho⟩ := Option.bind_eq_some_iff.mp ho
  exact (s.holder?_eq_none_iff _).mp h j r o hr ho rfl

theorem keepsLaws_execOffer {s t : State} {src order cls collectBy digits : Nat}
    (h : execOffer src order cls collectBy digits s = .next t) : s.KeepsLaws t := by
  obtain rfl := Host.Outcome.next.inj h
  split
  · exact .refl s
  · split
    · exact ((State.Aside.refl s).reassert _).keepsLaws
    next hheld =>
      split
      · exact .refl s
      next hentry =>
        split
        next hbid =>
          split
          next i hi =>
            obtain ⟨hjoined, hroom⟩ := State.not_isolated_of_mayBid hbid
            have hnew : ∀ e ∈ s.book, e.order ≠ order := fun e he hn =>
              hentry ((s.entry?_isSome_iff order).mpr ⟨e, he, hn⟩)
            have hopened : s.KeepsLaws
                (s.withBook (insertEntry (s.newEntry order cls collectBy digits i) s.book)) :=
              s.keepsLaws_withBook (fun hi => absurd hi hjoined) fun hb =>
                hb.insert hroom hnew (State.candidate_new hi) (State.notMem_heldOrders hheld)
            exact hopened.aside ((State.Aside.refl _).handOrder _)
          · exact .refl s
        · exact .refl s

theorem keepsLaws_execClaim {s t : State} {src order score locker : Nat} {loaded : Bool}
    (h : execClaim src order score locker loaded s = .next t) : s.KeepsLaws t := by
  obtain rfl := Host.Outcome.next.inj h
  have hs := State.Aside.refl s
  split
  · split
    · exact (State.KeepsLaws.refl s).dropEntry order
    · exact (State.KeepsLaws.refl s).recordRival ..
  · split
    next i _ =>
      refine State.Aside.keepsLaws ?_
      unfold State.meetClaim
      split
      · exact hs
      · split
        · exact hs
        · split
          · split
            · exact ((hs.vacate i).recompute i).handOrder _
            · exact hs.reassert i
          · split
            · exact hs
            · exact hs.reassert i
    · exact .refl s

/-- R5, R111: a record reserved for an order that no entry of the book is open for any more. -/
theorem State.keepsLaws_reserve (s : State) (i : Nat) {e : BookEntry} (h : ∀ x ∈ s.book, x.order ≠ e.order) :
    s.KeepsLaws (s.modLocker i fun r => r.reserve e) where
  silent hs := by simpa [State.SilentLaw] using hs
  book hs := by
    obtain ⟨hlen, ho, hc, hheld⟩ := hs
    have hbook : (s.modLocker i fun r => r.reserve e).book = s.book := by simp
    rw [State.BookLaw, hbook]
    refine ⟨hlen, ho, hc, fun x hx hn => ?_⟩
    obtain ⟨j, o, hj, hxo⟩ := (State.mem_heldOrders _ _).mp hn
    by_cases hji : j = i
    · subst hji
      cases hr : s.locker? j with
      | none => simp [State.orderAt, hr] at hj
      | some r =>
        simp only [State.orderAt, State.modLocker_locker?, if_true, hr, Option.map_some, Option.bind_some,
          Locker.reserve, Option.some.injEq] at hj
        exact h x hx (by rw [← hxo, ← hj])
    · exact hheld x hx ((s.mem_heldOrders _).mpr ⟨j, o, by simpa [State.orderAt, hji] using hj, hxo⟩)
  peer hs := by simpa [State.PeerLaw, State.own] using hs
  keypad hs := by simpa [State.KeypadLaw] using hs
  range hs := by simpa [State.RangeLaw] using hs

theorem keepsLaws_execWindowEnd {s t : State} {order : Nat} (h : execWindowEnd order s = .next t) :
    s.KeepsLaws t := by
  obtain rfl := Host.Outcome.next.inj h
  split
  · exact .refl s
  next e he =>
    obtain rfl : e.order = order := by simpa using List.find?_some he
    have hdrop := (State.KeepsLaws.refl s).dropEntry e.order
    dsimp only
    split
    · split
      next i _ =>
        have hgone : ∀ x ∈ (s.dropEntry e.order).book, x.order ≠ e.order := by simp [State.dropEntry]
        exact (hdrop.trans (State.keepsLaws_reserve _ i hgone)).aside (((State.Aside.refl _).recompute i).handOrder _)
      · exact hdrop
    · exact hdrop

/-! ### Verbs (R149 to R159) -/

/-- R150 step 2: COMMISSION refuses a verb, or its rule is applied. -/
theorem keepsLaws_inService {rule : CommandFrame → State → State × Answer}
    (hr : ∀ c (u : State), u.KeepsLaws (rule c u).1) (c : CommandFrame) (u : State) :
    u.KeepsLaws (inService rule c u).1 := by
  unfold inService
  split
  · exact .refl u
  · exact hr c u

theorem keepsLaws_loadRule (c : CommandFrame) (u : State) : u.KeepsLaws (loadRule c u).1 := by
  unfold loadRule
  split
  · exact .refl u
  · split
    · exact .refl u
    · split
      · exact ((State.Aside.refl u).opening _).keepsLaws
      · exact .refl u
      · exact .refl u

theorem keepsLaws_voidRule (c : CommandFrame) (u : State) : u.KeepsLaws (voidRule c u).1 := by
  have hu := State.Aside.refl u
  unfold voidRule
  split
  · split
    · exact (State.KeepsLaws.refl u).dropEntry _
    · exact .refl u
  next i _ =>
    split
    · exact .refl u
    · split
      · exact (((hu.notify ..).vacate i).recompute i).keepsLaws
      · exact (hu.modRecord i).keepsLaws
      · exact ((hu.retire i _).recompute i).keepsLaws
      all_goals exact .refl u

/-- R153, R154: a locker verb. -/
theorem keepsLaws_lockerRule {rule : Nat → Locker → State → State × Answer}
    (hr : ∀ i r (u : State), u.Aside (rule i r u).1) (c : CommandFrame) (u : State) :
    u.KeepsLaws (lockerRule rule c u).1 := by
  unfold lockerRule
  split
  · exact .refl u
  · split
    · exact (hr ..).keepsLaws
    · exact .refl u

theorem aside_clearRule (i : Nat) (r : Locker) (u : State) : u.Aside (clearRule i r u).1 := by
  unfold clearRule
  split
  · dsimp only
    split
    · exact (State.Aside.refl u).beginCycle i
    · exact .refl u
  · exact .refl u

theorem aside_blockRule (i : Nat) (r : Locker) (u : State) : u.Aside (blockRule i r u).1 := by
  unfold blockRule
  split
  · exact ((State.Aside.refl u).modRecord i).recompute i
  · exact .refl u

theorem aside_unblockRule (i : Nat) (r : Locker) (u : State) : u.Aside (unblockRule i r u).1 := by
  unfold unblockRule
  split
  · exact ((State.Aside.refl u).modLocker i fun r => .inr (by simp)).recompute i
  · exact .refl u

/-- R157: a lamp test changes the lamp chain alone. -/
theorem keepsLaws_lampTestRule (c : CommandFrame) (u : State) : u.KeepsLaws (lampTestRule c u).1 := by
  unfold lampTestRule
  split
  · exact ((State.Aside.refl u).withLamp _).keepsLaws
  · exact .refl u

theorem keepsLaws_execRestart {s t : State} (h : execRestart s = .next t) : s.KeepsLaws t := by
  obtain rfl := Host.Outcome.next.inj h
  refine s.keepsLaws_takeVerb _ fun c u => ?_
  dsimp only
  split
  · exact ((State.KeepsLaws.refl u).withCip _).trans (State.keepsLaws_warmRestart _)
  · exact (State.KeepsLaws.refl u).withCip _

theorem State.keepsLaws_takeClass (s : State) : s.KeepsLaws s.takeClass := by
  unfold State.takeClass
  split
  · exact .refl s
  · split
    · have htaken := (State.KeepsLaws.refl s).withCip
      dsimp only
      split
      · exact (htaken _).answer ..
      · split
        · exact (htaken _).withCip _
        · exact (htaken _).answer ..
    · exact .refl s

theorem keepsLaws_execClassWriteEnd {s t : State} (h : execClassWriteEnd s = .next t) : s.KeepsLaws t := by
  obtain rfl := Host.Outcome.next.inj h
  split
  next w _ =>
    have hwritten := (((State.Aside.refl s).withTime (x := s.time.writeClass w)).withCip
      { s.cip with proc := .free }).keepsLaws
    dsimp only
    split
    · exact hwritten
    · exact hwritten.handReply _
  · exact .refl s
  · exact .refl s

/-- R148: one answer after another. -/
theorem State.KeepsLaws.answerAll {s t : State} (h : s.KeepsLaws t) (f : State → CommandFrame → ReplyFrame)
    (gone : List CommandFrame) : s.KeepsLaws (gone.foldl (fun u c => u.answerNow c (f u c)) t) := by
  induction gone generalizing t with
  | nil => exact h
  | cons c gone ih => exact ih (h.answerNow c _)

theorem keepsLaws_execCommand {s t : State} {src dest verb : Nat} {ops : List Nat}
    (h : execCommand src dest verb ops s = .next t) : s.KeepsLaws t := by
  obtain rfl := Host.Outcome.next.inj h
  split
  · exact .refl s
  · have hanswered := fun c gone => ((State.KeepsLaws.refl s).withCip c).answerAll State.supersededReply gone
    dsimp only
    split
    · exact (hanswered _ _).withCip _
    · exact (hanswered _ _).answerNow ..

end Sys2Proof.Machine
end

section
/-! PROOFS. The rows of the line, the keypad and the power keep the five laws, and so does the clockwork: the silent and
book laws (O13), and the peer, keypad and range laws (O14). -/

namespace Sys2Proof.Machine

/-! ### The line (R134 to R137, R127 to R129, R142) -/

theorem keepsLaws_execAttemptStart {s t : State} (h : execAttemptStart s = .next t) : s.KeepsLaws t := by
  obtain rfl := Host.Outcome.next.inj h
  split
  · exact .refl s
  · split
    next hsend =>
      simp only [State.maySend, Bool.and_eq_true, Bool.not_eq_true'] at hsend
      obtain ⟨⟨⟨hin, hlisten⟩, -⟩, -⟩ := hsend
      exact s.keepsLaws_withLine fun hq => by simp [hin, hlisten] at hq
    · exact .refl s

theorem keepsLaws_execTransmissionComplete {s t : State} (h : execTransmissionComplete s = .next t) :
    s.KeepsLaws t := by
  obtain rfl := Host.Outcome.next.inj h
  split
  · split
    · exact State.KeepsLaws.demandCompleted (s.keepsLaws_withLine_same)
    · exact .refl s
  next a _ =>
    have hsent : s.KeepsLaws (s.withLine (s.line.sent a.list).settle) := by
      cases a.list <;> exact s.keepsLaws_withLine_same rfl rfl fun _ => rfl
    dsimp only
    split
    · split
      · exact hsent.reportReply _
      · exact hsent
    · exact hsent.demandCompleted
    · exact hsent
    · exact hsent

/-- R136: a collision clears the wire. -/
theorem Line.collided_frame (l : Line) (settles : Bool) : (l.collided settles).inStep = l.inStep ∧
    (l.collided settles).listenOnly = l.listenOnly ∧ (l.collided settles).wire = none := by
  rw [Line.collided_eq]
  exact ⟨rfl, rfl, rfl⟩

theorem keepsLaws_execCollision {s t : State} (h : execCollision s = .next t) : s.KeepsLaws t := by
  obtain rfl := Host.Outcome.next.inj h
  split
  · exact .refl s
  next a _ =>
    obtain ⟨hin, hlisten, hwire⟩ := s.line.collided_frame a.settles
    have hreplies : s.KeepsLaws
        (s.withLine { s.line.collided a.settles with replies := retryHead s.line.replies }) :=
      s.keepsLaws_withLine_same hin hlisten fun _ => hwire
    dsimp only
    split
    · split
      · split
        · exact hreplies.reportReply _
        · exact hreplies
      · exact hreplies
    all_goals exact s.keepsLaws_withLine_same hin hlisten fun _ => hwire

/-- R129: a fall out of step. -/
theorem State.keepsLaws_fallOutOfStep (s : State) : s.KeepsLaws s.fallOutOfStep := by
  refine State.KeepsLaws.reportAll (s.keepsLaws_fall ?_) _
  rcases s.line.fallen_cases with ⟨-, hf⟩ | ⟨k, -, hf⟩ <;> rw [hf]

theorem keepsLaws_execJabber {s t : State} (h : execJabber s = .next t) : s.KeepsLaws t := by
  obtain rfl := Host.Outcome.next.inj h
  split
  · have hcount : s.KeepsLaws (s.withLine { s.line with activityCount := Config.jabberLimit }) :=
      s.keepsLaws_withLine_same
    dsimp only
    split
    · exact hcount.trans (State.keepsLaws_fallOutOfStep _)
    · exact hcount
  · exact .refl s

theorem keepsLaws_execLossOfStep {s t : State} (h : execLossOfStep s = .next t) : s.KeepsLaws t := by
  obtain rfl := Host.Outcome.next.inj h
  split
  · exact (s.keepsLaws_withLine_same).trans (State.keepsLaws_fallOutOfStep _)
  · exact s.keepsLaws_withLine_same

theorem keepsLaws_execAddressClash {s t : State} (h : execAddressClash s = .next t) : s.KeepsLaws t := by
  obtain rfl := Host.Outcome.next.inj h
  split
  · exact .refl s
  · exact State.KeepsLaws.reportAll
      (((State.KeepsLaws.refl s).withCip _).trans (State.keepsLaws_fall _ (l := s.line.clashed) rfl)) _

/-! ### The keypad (R173 to R180) -/

/-- R173: a key that is accepted moves the scanner and the pins alone. -/
theorem State.keepsLaws_acceptKey (s : State) (k : Key) : s.KeepsLaws (s.acceptKey k) :=
  s.keepsLaws_withKeypad.aside ((State.Aside.refl _).withPins _)

theorem keepsLaws_execDigitKey {s t : State} {d : Nat} (h : execDigitKey d s = .next t) : s.KeepsLaws t := by
  obtain rfl := Host.Outcome.next.inj h
  split
  · dsimp only
    split
    · exact s.keepsLaws_acceptKey _
    next hopen =>
      exact (s.keepsLaws_acceptKey _).trans
        (State.keepsLaws_withKeypad _ fun hk => hk.digit (by simpa using hopen) d)
  · exact .refl s

theorem keepsLaws_execClearKey {s t : State} (h : execClearKey s = .next t) : s.KeepsLaws t := by
  obtain rfl := Host.Outcome.next.inj h
  split
  · dsimp only
    split
    · exact s.keepsLaws_acceptKey _
    · exact (s.keepsLaws_acceptKey _).trans (State.keepsLaws_withKeypad _ fun hk => hk.emptied)
  · exact .refl s

/-- R25: a match request opens a record, or leaves the state. -/
theorem State.aside_matchRequest (s : State) (order digits : Nat) : s.Aside (s.matchRequest order digits).1 := by
  unfold State.matchRequest
  split
  · exact .refl s
  · split
    · exact .refl s
    · split
      · exact (State.Aside.refl s).opening _
      · exact .refl s

/-- R176, R177: an entry outside a lockout is judged. -/
theorem State.keepsLaws_judgeEntry (s : State) (digits : List Nat) (overlong : Bool)
    (hopen : s.keypad.lockout = none) : s.KeepsLaws (s.judgeEntry digits overlong) := by
  have hemptied : s.KeepsLaws (s.withKeypad s.keypad.emptied) := s.keepsLaws_withKeypad fun hk => hk.emptied
  unfold State.judgeEntry
  dsimp only
  split
  · exact hemptied
  · split
    · exact hemptied.trans (State.keepsLaws_withKeypad _ fun hk => hk.refuse hopen)
    · have hmatch := State.aside_matchRequest (s.withKeypad s.keypad.emptied)
        (decimal (digits.take (digits.length - 2))) (decimal (digits.drop (digits.length - 2)))
      exact (hemptied.aside hmatch).trans
        (State.keepsLaws_withKeypad _ fun hk => hk.outcome (by rw [hmatch.keypad]; exact hopen) _)

theorem keepsLaws_execEnterKey {s t : State} (h : execEnterKey s = .next t) : s.KeepsLaws t := by
  obtain rfl := Host.Outcome.next.inj h
  split
  · dsimp only
    split
    · exact s.keepsLaws_acceptKey _
    next hopen =>
      exact (s.keepsLaws_acceptKey _).trans (State.keepsLaws_judgeEntry _ _ _ (by simpa using hopen))
  · exact .refl s

theorem keepsLaws_execEntryTimeout {s t : State} (h : execEntryTimeout s = .next t) : s.KeepsLaws t := by
  obtain rfl := Host.Outcome.next.inj h
  split
  · exact s.keepsLaws_withKeypad fun hk => hk.emptied
  · exact .refl s

/-! ### Grant rounds, DEMAND frames and share ticks (R61, R63, R76 to R95) -/

/-- R63, R64: a round sets pointers to lockers of the bank. -/
theorem State.visitLevel_pointers {s : State} (slots level : Nat) {acc : List Nat × List Nat}
    (h : ∀ p ∈ acc.2, p ≤ s.count) : ∀ p ∈ (s.visitLevel slots acc level).2, p ≤ s.count := by
  unfold State.visitLevel
  dsimp only
  split
  next i hi =>
    have htaken : i ∈ s.levelOrder level := List.mem_of_mem_take (List.mem_of_getLast? hi)
    intro p hp
    rcases List.mem_or_eq_of_mem_set hp with hp | rfl
    · exact h p hp
    · exact (State.mem_indices.mp (State.mem_levelOrder htaken).1).2
  · exact h

theorem State.roundResult_pointers {s : State} (h : ∀ p ∈ s.grant.pointers, p ≤ s.count) :
    ∀ p ∈ s.roundResult.2, p ≤ s.count := by
  have key : ∀ (levels : List Nat) acc, (∀ p ∈ acc.2, p ≤ s.count) →
      ∀ p ∈ (levels.foldl (s.visitLevel s.slotCount) acc).2, p ≤ s.count := by
    intro levels
    induction levels with
    | nil => exact fun _ ha => ha
    | cons l levels ih => exact fun acc ha => ih _ (State.visitLevel_pointers _ l ha)
  exact key _ _ h

theorem keepsLaws_execGrantRound {s t : State} (h : execGrantRound s = .next t) : s.KeepsLaws t := by
  obtain rfl := Host.Outcome.next.inj h
  split
  · exact s.keepsLaws_withGrant
  · exact s.keepsLaws_withGrant (hlen := fun hlen => (State.pointersFollow_roundResult hlen).1)
      (hp := State.roundResult_pointers)

theorem keepsLaws_execDemand {s t : State} {src seq d f k w a : Nat} {trip isolated commission : Bool}
    (h : execDemand src seq d f k w a trip isolated commission s = .next t) : s.KeepsLaws t := by
  obtain rfl := Host.Outcome.next.inj h
  split
  · exact .refl s
  next hsrc =>
    split
    · exact .refl s
    · exact s.keepsLaws_withShare
        (hpeers := fun hp => hp.enter (fun hown => hsrc (.inr hown)) (clampedPeer_fits ..))

/-- R95: the DEMAND slot is refilled, and nothing else of the line moves. -/
theorem Line.refillDemand_frame (l : Line) (f : DemandFrame) : (l.refillDemand f).inStep = l.inStep ∧
    (l.refillDemand f).listenOnly = l.listenOnly ∧ (l.refillDemand f).wire = l.wire := by
  unfold Line.refillDemand
  split <;> exact ⟨rfl, rfl, rfl⟩

/-- R85: a tick makes no bank ISOLATED, and leaves an ISOLATED one so, once the unsent run is counted. -/
theorem Share.countJoin_isolated (x : Share) : x.countJoin.state = .isolated ↔ x.state = .isolated := by
  have := x.countJoin_state
  split at this
  next hj => rw [this.2, hj]; split <;> simp
  · rw [this.1]

theorem State.keepsLaws_settleShare (s : State) : s.KeepsLaws s.settleShare := by
  obtain ⟨hin, hlisten, hwire⟩ := s.line.refillDemand_frame
    ⟨(s.share.seq + 1) % 256, s.demandHU, s.floorHU, s.ceilingHU, s.weight, s.nextAllowance, s.tripped,
      decide (s.settleShare.share.state ≠ .sharing), s.straps.commission⟩
  rw [← s.settleShare_line] at hin hlisten hwire
  have hshare : s.KeepsLaws (s.withShare s.settleShare.share) := by
    refine s.keepsLaws_withShare ?_ (fun hp => ?_) fun _ => ?_
    · simp [s.settleShare_share, Share.countJoin_isolated]
    · simpa [s.settleShare_share] using hp
    · simp only [s.settleShare_share]
      exact Nat.mod_lt _ (by decide)
  exact hshare.aside (State.aside_of_lockers (by simp) (by simp) (by simp) (by simp) (by simp) (by simp)
    (hin := hin) (hlisten := hlisten) (hwire := hwire))

theorem keepsLaws_execShareTick {s t : State} (h : execShareTick s = .next t) : s.KeepsLaws t := by
  rw [execShareTick_eq] at h
  obtain rfl := Host.Outcome.next.inj h
  have haged : s.KeepsLaws (s.withShare s.share.agedCounted) :=
    s.keepsLaws_withShare (hpeers := fun hp => hp.aged)
  have hcounted : s.agePeerTable.countUnsent = if s.share.nextRun = 8 then (s.withShare s.share.agedCounted).isolate
      else s.withShare s.share.agedCounted := rfl
  refine State.KeepsLaws.trans ?_ (State.keepsLaws_settleShare _)
  rw [hcounted]
  split
  · exact haged.trans (State.keepsLaws_isolate _)
  · exact haged

/-- R69, R93: an assertion moves the allowance and the grant list. -/
theorem State.keepsLaws_cutPower (s : State) : s.KeepsLaws s.cutPower :=
  s.keepsLaws_withShare.aside (State.Aside.refl _).withGrant

/-! ### All rows, and the clockwork -/

theorem keepsLaws_exec {c : Instr} {s t : State} (h : exec c s = .next t) : s.KeepsLaws t := by
  have hs := State.Aside.refl s
  cases c
  case firstSweepReading => exact (aside_execFirstSweepReading h).keepsLaws
  case probeSample => exact (aside_execProbeSample h).keepsLaws
  case doorOpened => exact (aside_execDoorOpened h).keepsLaws
  case doorClosed => exact (aside_execDoorClosed h).keepsLaws
  case ajar => exact (aside_execAjar h).keepsLaws
  case openWaitExpired => exact (aside_execOpenWaitExpired h).keepsLaws
  case pulseEnded => exact (aside_execPulseEnded h).keepsLaws
  case secondTick => exact keepsLaws_execSecondTick h
  case minuteTick => exact keepsLaws_execMinuteTick h
  case time src minute second => exact keepsLaws_execTime (src := src) h
  case offer src order cls collectBy digits => exact keepsLaws_execOffer (src := src) h
  case claim src order score locker loaded => exact keepsLaws_execClaim (src := src) (locker := locker) h
  case windowEnd => exact keepsLaws_execWindowEnd h
  case command => exact keepsLaws_execCommand h
  case restart => exact keepsLaws_execRestart h
  case classWriteEnd => exact keepsLaws_execClassWriteEnd h
  case attemptStart => exact keepsLaws_execAttemptStart h
  case transmissionComplete => exact keepsLaws_execTransmissionComplete h
  case collision => exact keepsLaws_execCollision h
  case jabber => exact keepsLaws_execJabber h
  case lossOfStep => exact keepsLaws_execLossOfStep h
  case addressClash => exact keepsLaws_execAddressClash h
  case digitKey => exact keepsLaws_execDigitKey h
  case clearKey => exact keepsLaws_execClearKey h
  case enterKey => exact keepsLaws_execEnterKey h
  case entryTimeout => exact keepsLaws_execEntryTimeout h
  case grantRound => exact keepsLaws_execGrantRound h
  case shareTick => exact keepsLaws_execShareTick h
  case demand src seq d f k w a trip isolated commission =>
    exact keepsLaws_execDemand (isolated := isolated) (commission := commission) h
  all_goals obtain rfl := Host.Outcome.next.inj h
  case powerOnReset p => exact s.keepsLaws_powerOn p
  case warmRestart => exact s.keepsLaws_warmRestart
  case trayAppeared i | trayRemoved i => exact (hs.trayChange i _).keepsLaws
  case flashPhase => exact hs.withTime.keepsLaws
  case lampFrame | lampTestEnd => exact (hs.withLamp _).keepsLaws
  case bid src order score locker => exact (State.KeepsLaws.refl s).recordRival ..
  case shed => exact s.keepsLaws_withGrant (fun _ => Nat.mod_lt _ (by decide))
  case resign | notice | reply => exact .refl s
  case load => exact s.keepsLaws_takeVerb _ (keepsLaws_inService keepsLaws_loadRule)
  case void => exact s.keepsLaws_takeVerb _ (keepsLaws_inService keepsLaws_voidRule)
  case clear => exact s.keepsLaws_takeVerb _ (keepsLaws_inService (keepsLaws_lockerRule aside_clearRule))
  case block => exact s.keepsLaws_takeVerb _ (keepsLaws_inService (keepsLaws_lockerRule aside_blockRule))
  case unblock => exact s.keepsLaws_takeVerb _ (keepsLaws_inService (keepsLaws_lockerRule aside_unblockRule))
  case query =>
    refine s.keepsLaws_takeVerb _ fun c u => ?_
    unfold queryRule
    split <;> exact .refl u
  case queryBank | unknownVerb => exact s.keepsLaws_takeVerb _ fun _ u => .refl u
  case lampTest => exact s.keepsLaws_takeVerb _ keepsLaws_lampTestRule
  case classWrite => exact s.keepsLaws_takeClass
  case frameDiscarded =>
    split
    · exact s.keepsLaws_withLine_same
    · exact .refl s
    · exact .refl s
  case lineActive =>
    split
    · exact .refl s
    · exact s.keepsLaws_withLine_same
  case lineSettled =>
    split
    · exact s.keepsLaws_withLine_same
    · exact .refl s
  case inStep =>
    split
    next hout => exact s.keepsLaws_withLine fun _ => ⟨.inl hout.1, id⟩
    · exact .refl s
  case lineFaultCleared => exact s.keepsLaws_withLine_same
  case keyReject | keysReleased => exact s.keepsLaws_withKeypad.aside ((State.Aside.refl _).withPins _)
  case strikeAgedOut => exact s.keepsLaws_withKeypad fun hk => hk.dropStrike
  case lockoutEnd => exact s.keepsLaws_withKeypad fun hk => hk.unlock
  case beeperPatternEnd => exact s.keepsLaws_withKeypad
  case feederTripAsserted | supplyLowAsserted =>
    split
    · exact .refl s
    · exact (hs.withTime.withPins _).keepsLaws.trans (State.keepsLaws_cutPower _)
  case feederTripCleared =>
    split
    · exact (hs.withTime.withPins _).keepsLaws
    · exact .refl s
  case supplyLowCleared =>
    split
    · exact (hs.withTime.withPins _).takeLatch.keepsLaws
    · exact .refl s

/-- R99, R120, R170 to R190: a symbol time moves timers and windows, and what is on the wire stays there. -/
theorem State.keepsLaws_tick (s : State) : s.KeepsLaws s.tick where
  silent hs := by
    obtain ⟨hquiet, hempty⟩ := hs
    have hline : s.tick.line = (s.line.symbolTime s.own s.readSymbol).1 := rfl
    rw [Line.symbolTime_line] at hline
    refine ⟨fun hq => ?_, fun hi => by simp [State.tick, State.countTime, hempty hi]⟩
    rw [hline] at hq ⊢
    exact ⟨(hquiet hq).1, by simp [(hquiet hq).2]⟩
  book hs := by
    have hheld : ∀ n ∈ s.tick.heldOrders, n ∈ s.heldOrders := by
      intro n hn
      obtain ⟨j, o, ho, rfl⟩ := (s.tick.mem_heldOrders n).mp hn
      refine (s.mem_heldOrders _).mpr ⟨j, o, ?_, rfl⟩
      rw [State.orderAt, s.tick_locker?] at ho
      rw [← ho, State.orderAt]
      cases s.locker? j <;> rfl
    exact (BookFits.sublist hs (.refl _) hheld).map (fun _ => rfl) fun _ => rfl
  peer := id
  keypad hs := Keypad.Lawful.tick hs s.pins.keys
  range hs := by
    rw [State.RangeLaw, s.tick_count]
    exact hs

theorem State.keepsLaws_idle (s : State) : s.KeepsLaws s.idle := by
  unfold State.idle
  split
  · exact s.keepsLaws_tick
  · exact ⟨id, id, id, id, id⟩

/-- A law that is kept by what keeps the five laws is kept by every step. -/
theorem keptByStep_of_keepsLaws {law : State → Prop} (h : ∀ s t, s.KeepsLaws t → law s → law t) : KeptByStep law := by
  refine keptByStep_of_exec (fun s => h s _ s.keepsLaws_idle) (fun c s t hs hexec => h s t (keepsLaws_exec hexec) hs)
    fun s q => h s _ ⟨id, id, id, id, id⟩

/-- Settles O13: every row and every symbol time keeps the silence of a bank that may not send, and the rules of the
book. -/
theorem silentAndBookLawsKept : Obligations.SilentAndBookLawsKept :=
  ⟨keptByStep_of_keepsLaws fun _ _ h => h.silent, keptByStep_of_keepsLaws fun _ _ h => h.book⟩

/-- Settles O14: every row and every symbol time keeps the Peer Table, the keypad and the ranges. -/
theorem peerKeypadAndRangeLawsKept : Obligations.PeerKeypadAndRangeLawsKept :=
  keptByStep_of_keepsLaws fun _ _ h ⟨hpeer, hkeypad, hrange⟩ => ⟨h.peer hpeer, h.keypad hkeypad, h.range hrange⟩

end Sys2Proof.Machine
end

section
/-! PROOFS. DEMAND at the Peer Table (O42). -/

namespace Sys2Proof.Machine

/-- R75: entries of one station in a table in order are one. -/
theorem eq_of_station_eq {peers : List Peer} (hsorted : (peers.map Peer.station).Pairwise (· < ·)) {p q : Peer}
    (hp : p ∈ peers) (hq : q ∈ peers) (h : p.station = q.station) : p = q :=
  List.inj_on_of_nodup_map (hsorted.imp Nat.ne_of_lt) hp hq h

/-- R78: whether the table keeps an entry of another station when p enters. -/
def Peer.KeptBeside (peers : List Peer) (p x : Peer) : Prop :=
  (∃ q ∈ peers, q.station = p.station) ∨ peers.length < 30 ∨
    ∃ q ∈ peers, x.silence < q.silence ∨ (x.silence = q.silence ∧ x.station < q.station)

/-- R78: in a full table, what marks the entries beside the one that is given up. -/
theorem station_ne_last_iff {peers : List Peer} (hsorted : (peers.map Peer.station).Pairwise (· < ·)) {q x : Peer}
    (hq : q ∈ peers) (hx : x ∈ peers)
    (hlast : ∀ y ∈ peers, y.silence < q.silence ∨ (y.silence = q.silence ∧ y.station ≤ q.station)) :
    x.station ≠ q.station ↔ ∃ y ∈ peers, x.silence < y.silence ∨ (x.silence = y.silence ∧ x.station < y.station) := by
  constructor
  · intro hne
    have := hlast x hx
    exact ⟨q, hq, by omega⟩
  · rintro ⟨y, hy, hbefore⟩ heq
    obtain rfl := eq_of_station_eq hsorted hx hq heq
    have := hlast y hy
    omega

/-- R78: the entries of the table after p has entered it. -/
theorem mem_enterPeer {peers : List Peer} (hsorted : (peers.map Peer.station).Pairwise (· < ·)) (p x : Peer) :
    x ∈ enterPeer peers p ↔ x = p ∨ (x ∈ peers ∧ x.station ≠ p.station ∧ p.KeptBeside peers x) := by
  rcases enterPeer_cases p peers with ⟨hroom, h⟩ | ⟨hnew, hfull, q, hq, hlast, h⟩ <;> rw [h]
  · have hkept : p.KeptBeside peers x := hroom.imp_right .inl
    simp [mem_insertPeer hsorted, hkept]
  · have hrest : ((peers.filter (·.station != q.station)).map Peer.station).Pairwise (· < ·) :=
      hsorted.sublist (List.filter_sublist.map _)
    have hkept : x ∈ peers → (p.KeptBeside peers x ↔ x.station ≠ q.station) := fun hx => by
      have hno : ¬ ∃ y ∈ peers, y.station = p.station := fun ⟨y, hy, hp⟩ => hnew y hy hp
      have hlen : ¬ peers.length < 30 := by simpa [Config.peerCapacity] using hfull
      rw [Peer.KeptBeside, station_ne_last_iff hsorted hq hx hlast]
      simp only [hno, hlen, false_or]
    rw [mem_insertPeer hrest, List.mem_filter, bne_iff_ne]
    constructor
    · rintro (hx | ⟨⟨hx, hne⟩, hp⟩)
      · exact .inl hx
      · exact .inr ⟨hx, hp, (hkept hx).2 hne⟩
    · rintro (hx | ⟨hx, hp, hk⟩)
      · exact .inl hx
      · exact .inr ⟨⟨hx, (hkept hx).1 hk⟩, hp⟩

/-- R76 to R78: a DEMAND is ignored, a duplicate, or enters the table. -/
theorem execDemand_eq (src seq d f k w a : Nat) (trip isolated commission : Bool) (s : State)
    [Decidable (∃ p ∈ s.share.peers, p.station = src ∧ p.lastSeq = seq)] :
    execDemand src seq d f k w a trip isolated commission s =
      .next (if src = 31 ∨ src = s.own ∨ ∃ p ∈ s.share.peers, p.station = src ∧ p.lastSeq = seq then s
        else s.withShare { s.share with peers := enterPeer s.share.peers (clampedPeer src seq d f k w a trip) }) := by
  simp only [execDemand, List.any_eq_true, Bool.and_eq_true, beq_iff_eq, ← or_assoc, ite_or]

/-- Settles O42: a DEMAND that is not taken leaves the state, and one that is enters the table alone. -/
theorem demandEntersPeerTable : Obligations.DemandEntersPeerTable := by
  intro src seq d f k w a trip isolated commission s hlaw
  have hexec := execDemand_eq src seq d f k w a trip isolated commission s
  by_cases hignored : src = 31 ∨ src = s.own ∨ ∃ p ∈ s.share.peers, p.station = src ∧ p.lastSeq = seq
  · rw [if_pos hignored] at hexec
    refine ⟨s, hexec, rfl, fun _ => rfl, fun h31 hown hnew => ?_⟩
    obtain h | h | ⟨p, hp, hsrc, hseq⟩ := hignored
    · exact absurd h h31
    · exact absurd h hown
    · exact absurd hseq (hnew p hp hsrc)
  · rw [if_neg hignored] at hexec
    exact ⟨_, hexec, rfl, fun h => absurd h hignored, fun _ _ _ p => mem_enterPeer hlaw.2.1 _ p⟩

end Sys2Proof.Machine
end

section
/-! PROOFS. SHARE_TICK at the allowance and the grant list (O40). -/

namespace Sys2Proof.Machine

/-- R73: the feeder capacities, in the order of their strap codes. -/
theorem capacityOf_toNat (code : BitVec 3) :
    capacityOf code.toNat = [240, 360, 480, 600, 720, 960, 1200, 1440].getD code.toNat 0 := by
  revert code
  decide

/-- R79, R88: the members that an aged table gives, each entry at its ceiling once it is STALE. -/
theorem map_member_agePeers (peers : List Peer) : (agePeers peers).map Peer.member =
    (peers.filter fun p => decide (p.silence + 1 < 20)).map fun p =>
      ⟨if p.stale ∨ 4 ≤ p.silence + 1 then p.k else p.d, p.f, p.w⟩ := by
  simp [agePeers_eq, Peer.member]

/-- R87 to R91: the target by the share state. -/
theorem State.target_eq (s : State) : s.target =
    if s.share.state ≠ .sharing then min s.demandHU s.isolatedShare
    else sharedTarget s.usable s.demandHU s.floorHU s.weight s.members := by
  unfold State.target
  cases s.share.state <;> rfl

/-- R83: the share state with which a tick enters its third step. -/
theorem State.countUnsent_state (s : State) : s.agePeerTable.countUnsent.share.state =
    if s.share.nextRun = 8 then .isolated else s.share.state := by
  rcases s.countUnsent_cases with ⟨⟨-, hrun⟩, h⟩ | ⟨hrun, h⟩ <;> rw [h]
  · simp [hrun]
  · by_cases h8 : s.share.nextRun = 8
    · simpa [h8, Share.agedCounted] using hrun
    · simp [h8, Share.agedCounted]

/-- Settles O40: the tick sets the allowance of R92 by the target over the aged table, and trims the list to it. -/
theorem shareTickSetsAllowance : Obligations.ShareTickSetsAllowance := by
  intro s run st D F C U T A heard due floors needs weighted hrun hst hD hF hC hU hheard hdue hfloors hneeds hweighted
    hT hA
  obtain rfl : run = s.share.nextRun := hrun
  obtain ⟨hd, hf, -, hw, husable⟩ := State.demand_congr (s := s) (t := s.agePeerTable.countUnsent) (by simp) (by simp)
    (by simp)
  have hDs : s.demandHU = D := hD.symm
  have hFs : s.floorHU = F := hF.symm
  have hCs : s.capacity = C := hC ▸ capacityOf_toNat _
  have hUs : s.usable = U := by rw [State.usable, hCs, hU]
  have hmembers : s.agePeerTable.countUnsent.members =
      ⟨D, F, s.straps.weight.toNat + 1⟩ :: heard.map fun p => ⟨due p, p.f, p.w⟩ := by
    rw [State.members, hd, hf, hw, hDs, hFs, s.countUnsent_fields.1, map_member_agePeers, hheard, hdue]
    rfl
  have hshared : sharedTarget U D F (s.straps.weight.toNat + 1) s.agePeerTable.countUnsent.members =
      if U ≤ floors then U * F / floors
      else if needs ≤ U - floors then D
      else F + min (D - F) ((U - floors) * (s.straps.weight.toNat + 1) * (D - F) / weighted) := by
    rw [hmembers, hfloors, hneeds, hweighted]
    simp [sharedTarget, floorSum, needSum, weightedNeed, Member.need, Function.comp_def]
  have htarget : s.agePeerTable.countUnsent.target = T := by
    rw [State.target_eq, s.countUnsent_state, ← hst, State.isolatedShare, hd, hf, hw, husable, hDs, hFs, hUs, hT]
    exact congrArg _ hshared
  have hnext : s.agePeerTable.countUnsent.nextAllowance = A := by
    simp [State.nextAllowance, htarget, State.tripped, State.ramp, State.capacity, hA, ← hCs]
  refine ⟨_, execShareTick_eq s, ?_, ?_⟩
  · rw [State.settleShare_share]
    simp [hnext]
  · rw [State.settleShare_grant, hnext]
    simp

end Sys2Proof.Machine
end

section
/-! PROOFS. TRANSMISSION_COMPLETE by the list that the attempt serves (O48). -/

namespace Sys2Proof.Machine

/-! ### The warm restart that a reply brings about (R139, R158) -/

/-- R133: the notices that are queued join the notice list alone. -/
theorem Line.foldl_pushNotice_eq (l : Line) (fs : List NoticeFrame) :
    ∃ notices, fs.foldl Line.pushNotice l = { l with notices := notices } := by
  induction fs generalizing l with
  | nil => exact ⟨_, rfl⟩
  | cons f fs ih =>
    obtain ⟨ns, h⟩ := ih (l.pushNotice f)
    refine ⟨ns, h.trans ?_⟩
    unfold Line.pushNotice
    split <;> rfl

/-- R145: what a warm restart leaves of the line. -/
theorem State.warmRestart_line_fields (s : State) :
    s.warmRestart.line.wire = none ∧ s.warmRestart.line.extraWait = 0 ∧
    s.warmRestart.line.active = s.line.active ∧ s.warmRestart.line.accessCount = s.line.accessCount ∧
    s.warmRestart.line.activityCount = s.line.activityCount ∧ s.warmRestart.line.lineFault = s.line.lineFault ∧
    s.warmRestart.line.backoff = s.line.backoff := by
  rw [s.warmRestart_line]
  obtain ⟨ns, h⟩ := s.line.restarted.foldl_pushNotice_eq (s.indices.filterMap fun i =>
    (s.locker? i).bind (Locker.revertNotice s.time.classes s.time.clock i))
  rw [h]
  exact ⟨rfl, rfl, rfl, rfl, rfl, rfl, rfl⟩

theorem ReplyFrame.endsRestart_iff (f : ReplyFrame) : f.endsRestart = true ↔ f.Final := by
  simp [ReplyFrame.endsRestart, ReplyFrame.Final, verbRestart]

/-- R139: the report of a reply that ends no restart changes nothing. -/
theorem State.reportReply_of_not_final {s : State} {f : ReplyFrame} (h : ¬ (s.cip.proc = .restarting ∧ f.Final)) :
    s.reportReply f = s :=
  if_neg fun hr => h (hr.imp_right f.endsRestart_iff.mp)

/-- R158: the report of the final reply makes the warm restart. -/
theorem State.reportReply_of_final {s : State} {f : ReplyFrame} (hproc : s.cip.proc = .restarting) (hf : f.Final) :
    s.reportReply f = s.warmRestart :=
  if_pos ⟨hproc, f.endsRestart_iff.mpr hf⟩

/-! ### TRANSMISSION_COMPLETE (R135, R138, R139) -/

/-- R127, R135: the state once the frame on the wire has left its list and settled the monitor. -/
def State.frameSent (s : State) (k : ListKind) : State := s.withLine (s.line.sent k).settle

/-- R127, R135: the frame has left its list, the wire is free and the monitor SETTLED. -/
@[simp] theorem State.frameSent_line (s : State) (k : ListKind) :
    (s.frameSent k).line.wire = none ∧ (s.frameSent k).line.extraWait = 0 ∧
    (s.frameSent k).line.active = false ∧ (s.frameSent k).line.accessCount = 0 ∧
    (s.frameSent k).line.backoff = s.line.backoff ∧ (s.frameSent k).line.inStep = s.line.inStep ∧
    (s.frameSent k).line.listenOnly = s.line.listenOnly ∧
    (s.frameSent k).line.replies = (if k = .reply then s.line.replies.drop 1 else s.line.replies) ∧
    (s.frameSent k).line.orders = (if k = .order then s.line.ordersAfterHead else s.line.orders) ∧
    (s.frameSent k).line.orderNext = (if k = .order then none else s.line.orderNext) ∧
    (s.frameSent k).line.demand = (if k = .demand then s.line.demandAfter else s.line.demand) ∧
    (s.frameSent k).line.demandNext = (if k = .demand then none else s.line.demandNext) ∧
    (s.frameSent k).line.notices = (if k = .notice then s.line.notices.drop 1 else s.line.notices) := by
  simp [State.frameSent, Line.settle]
  cases k <;> simp [Line.sent]

/-- R135: the wire is free, the extra wait 0 and the monitor SETTLED, as TRANSMISSION_COMPLETE leaves them. -/
abbrev State.WireFreed (s t : State) : Prop :=
  t.line.wire = none ∧ t.line.extraWait = 0 ∧ t.line.active = false ∧ t.line.accessCount = 0 ∧
  t.line.backoff = s.line.backoff

theorem State.wireFreed_frameSent (s : State) (k : ListKind) : s.WireFreed (s.frameSent k) := by
  simp [State.WireFreed]

theorem State.WireFreed.warmRestart {s t : State} (h : s.WireFreed t) : s.WireFreed t.warmRestart := by
  obtain ⟨hwire, hwait, hactive, haccess, -, -, hbackoff⟩ := t.warmRestart_line_fields
  obtain ⟨-, -, h3, h4, h5⟩ := h
  exact ⟨hwire, hwait, hactive.trans h3, haccess.trans h4, hbackoff.trans h5⟩

/-- R84: the report of a DEMAND changes the Share Unit alone. -/
theorem State.demandCompleted_eq (s : State) : s.demandCompleted = s.withShare
    (if s.share.state = .isolated ∧ s.line.inStep = true ∧ s.line.listenOnly = false then
      { s.share with sentMark := true, state := .joining, joinCount := 0, unsentRun := 0 }
    else { s.share with sentMark := true }) := by
  rcases s.demandCompleted_cases with ⟨hs, hi, hl, h⟩ | ⟨hn, h⟩ <;> rw [h]
  · rw [if_pos ⟨hs, hi, hl⟩]
  · rw [if_neg hn]

/-- R139: the state once the frame of this list has left, and its report has been taken. -/
def State.sentReported (s : State) (k : ListKind) : State :=
  match k with
  | .reply => match s.line.replies.head? with
    | some q => (s.frameSent .reply).reportReply q.frame
    | none => s.frameSent .reply
  | .demand => (s.frameSent .demand).demandCompleted
  | .order => s.frameSent .order
  | .notice => s.frameSent .notice

/-- R135, R139: TRANSMISSION_COMPLETE of an attempt, by the list that it serves. -/
theorem execTransmissionComplete_wire {s : State} {a : Attempt} (h : s.line.wire = some a) :
    execTransmissionComplete s = .next (s.sentReported a.list) := by
  rw [execTransmissionComplete, h]
  obtain ⟨k, symbols, breaking, settles⟩ := a
  cases k <;> rfl

/-- R139, R158: the report of the reply at the head of the list is nothing, or the warm restart. -/
theorem State.sentReported_reply {s : State} {q : Queued ReplyFrame} {rest : List (Queued ReplyFrame)}
    (h : s.line.replies = q :: rest) :
    (¬ (s.cip.proc = .restarting ∧ q.frame.Final) → s.sentReported .reply = s.frameSent .reply) ∧
    (s.cip.proc = .restarting → q.frame.Final → s.sentReported .reply = (s.frameSent .reply).warmRestart) := by
  have hreport : s.sentReported .reply = (s.frameSent .reply).reportReply q.frame := by simp [State.sentReported, h]
  rw [hreport]
  exact ⟨fun h => State.reportReply_of_not_final h, fun hproc hf => State.reportReply_of_final hproc hf⟩

/-- R135: every report leaves the wire free. -/
theorem State.wireFreed_sentReported (s : State) (k : ListKind) : s.WireFreed (s.sentReported k) := by
  have hfreed := s.wireFreed_frameSent
  cases k
  case reply =>
    unfold State.sentReported
    cases s.line.replies.head? with
    | none => exact hfreed .reply
    | some q =>
      rcases (s.frameSent .reply).reportReply_cases q.frame with h | ⟨-, -, h⟩ <;> simp only [h]
      · exact hfreed .reply
      · exact (hfreed .reply).warmRestart
  case demand =>
    rw [State.sentReported, State.demandCompleted_eq]
    exact hfreed .demand
  case order => exact hfreed .order
  case notice => exact hfreed .notice

/-- Settles O48: the report that is left after a fall, none, or the frame sent, by the list that the attempt serves. -/
theorem completionRemovesSentFrame : Obligations.CompletionRemovesSentFrame := by
  refine ⟨fun s hwire hsent hstep => ?_, fun s hwire hsent => ?_, fun s a hwire => ?_⟩
  · show execTransmissionComplete s = _
    simp [execTransmissionComplete, hwire, hsent, State.demandCompleted_eq, hstep]
    rfl
  · show execTransmissionComplete s = _
    simp [execTransmissionComplete, hwire, hsent]
  · have hexec := execTransmissionComplete_wire hwire
    obtain ⟨hfree, hwait, hactive, haccess, hbackoff⟩ := s.wireFreed_sentReported a.list
    refine ⟨_, hexec, hfree, hwait, hactive, haccess, hbackoff, fun hk => ?_, fun hk => ?_, fun hk => ?_,
      fun hk q rest hq => ?_⟩ <;> rw [hk]
    case refine_1 =>
      obtain ⟨-, -, -, -, -, -, -, hreplies, horders, hnext, hdemand, -, hnotices⟩ := s.frameSent_line .order
      exact ⟨horders, hnext, hreplies, hdemand, hnotices, rfl⟩
    case refine_2 =>
      obtain ⟨-, -, -, -, -, -, -, hreplies, horders, -, hdemand, -, hnotices⟩ := s.frameSent_line .notice
      exact ⟨hnotices, hreplies, horders, hdemand, rfl⟩
    case refine_3 =>
      obtain ⟨-, -, -, -, -, hstep, hlisten, hreplies, horders, -, hdemand, hnext, hnotices⟩ := s.frameSent_line .demand
      rw [State.sentReported, State.demandCompleted_eq, hstep, hlisten]
      exact ⟨hdemand, hnext, hreplies, horders, hnotices, rfl, rfl⟩
    case refine_4 =>
      obtain ⟨-, -, -, -, -, -, -, hreplies, horders, -, hdemand, -, hnotices⟩ := s.frameSent_line .reply
      have hrest : (s.frameSent .reply).line.replies = rest := by simp [hq]
      obtain ⟨hplain, hfinal⟩ := State.sentReported_reply hq
      refine ⟨fun h => ?_, fun hproc hf => ⟨s.frameSent .reply, hrest, rfl, ?_⟩⟩
      · rw [hplain h]
        exact ⟨hrest, horders, hdemand, hnotices, rfl⟩
      · rw [hfinal hproc hf]
        rfl

end Sys2Proof.Machine
end

section
/-! PROOFS. LOSS_OF_STEP, JABBER and ADDRESS_CLASH (O51). -/

namespace Sys2Proof.Machine

/-! ### The reports of the replies that are thrown out (R139, R158) -/

/-- R139: replies of which none ends a restart are thrown out without a trace. -/
theorem State.reportAll_of_not_final {s : State} (fs : List ReplyFrame)
    (h : ¬ (s.cip.proc = .restarting ∧ ∃ f ∈ fs, f.Final)) : fs.foldl State.reportReply s = s := by
  induction fs with
  | nil => rfl
  | cons f fs ih =>
    rw [List.foldl_cons, State.reportReply_of_not_final fun hf => h ⟨hf.1, f, by simp, hf.2⟩]
    exact ih fun ⟨hproc, g, hg, hf⟩ => h ⟨hproc, g, by simp [hg], hf⟩

/-- R158: the first final reply that is thrown out makes the warm restart, which leaves the processor free. -/
theorem State.reportAll_of_final {s : State} {fs : List ReplyFrame} (hproc : s.cip.proc = .restarting)
    (h : ∃ f ∈ fs, f.Final) : fs.foldl State.reportReply s = s.warmRestart := by
  induction fs with
  | nil => simp at h
  | cons f fs ih =>
    rw [List.foldl_cons]
    by_cases hf : f.Final
    · rw [State.reportReply_of_final hproc hf]
      exact State.reportAll_of_not_final fs (by simp [Cip.init])
    · rw [State.reportReply_of_not_final fun hr => hf hr.2]
      obtain ⟨g, hg, hfinal⟩ := h
      rcases List.mem_cons.mp hg with rfl | hg
      · exact absurd hfinal hf
      · exact ih ⟨g, hg, hfinal⟩

/-- R139, R158: the reports of the replies of s, taken in u, are nothing or the warm restart. -/
theorem State.reportAll_replies {s u : State} (hu : u.cip.proc = s.cip.proc) :
    (¬ (s.cip.proc = .restarting ∧ ∃ q ∈ s.line.replies, q.frame.Final) →
      (s.line.replies.map Queued.frame).foldl State.reportReply u = u) ∧
    (s.cip.proc = .restarting → (∃ q ∈ s.line.replies, q.frame.Final) →
      (s.line.replies.map Queued.frame).foldl State.reportReply u = u.warmRestart) := by
  have hfinal : (∃ f ∈ s.line.replies.map Queued.frame, f.Final) ↔ ∃ q ∈ s.line.replies, q.frame.Final := by simp
  exact ⟨fun h => State.reportAll_of_not_final _ (by rwa [hu, hfinal]),
    fun hproc h => State.reportAll_of_final (hu.trans hproc) (hfinal.mpr h)⟩

/-! ### A fall out of step (R129, R141) -/

/-- R129: what a fall out of step empties and what it leaves, whether it meets a complete attempt or not. -/
theorem Line.fallen_fields (l : Line) :
    l.fallen.inStep = false ∧ l.fallen.inStepCount = 0 ∧ l.fallen.rx = .hunting ∧ l.fallen.wire = none ∧
    l.fallen.replies = [] ∧ l.fallen.orders = [] ∧ l.fallen.orderNext = none ∧ l.fallen.demandNext = none ∧
    l.fallen.active = l.active ∧ l.fallen.accessCount = l.accessCount ∧ l.fallen.activityCount = l.activityCount ∧
    l.fallen.quietRun = l.quietRun ∧ l.fallen.lineFault = l.lineFault ∧ l.fallen.backoff = l.backoff ∧
    l.fallen.listenOnly = l.listenOnly := by
  rcases l.fallen_cases with ⟨-, h⟩ | ⟨k, -, h⟩ <;> simp [h]

/-- R129: the state after a fall out of step, but for the reports of the replies that it throws out. -/
def State.fellOut (s : State) : State := (s.withLine s.line.fallen).isolate

theorem State.fallOutOfStep_reports (s : State) :
    s.fallOutOfStep = (s.line.replies.map Queued.frame).foldl State.reportReply s.fellOut := rfl

theorem State.fellOut_line (s : State) : s.fellOut.line = s.line.fallen := by simp [State.fellOut]

/-- R129, R141: an attempt that is not read back whole is cut off, and leaves its list and the extra wait. -/
theorem Line.fallen_cut {l : Line} (h : l.sentWhole = none) :
    l.fallen.notices = l.notices ∧ l.fallen.demandSent = l.demandSent ∧ l.fallen.demand = l.demandKept ∧
    l.fallen.extraWait = l.extraWait := by
  rcases l.fallen_cases with ⟨-, hf⟩ | ⟨k, hk, -⟩
  · simp [hf]
  · exact nomatch h.symm.trans hk

/-- R135: an attempt that is read back whole has left its list, with an extra wait of 0 (log 32). -/
theorem Line.fallen_whole {l : Line} {k : ListKind} (h : l.sentWhole = some k) :
    l.fallen.notices = (if k = .notice then l.notices.drop 1 else l.notices) ∧
    l.fallen.demandSent = (l.demandSent || k == .demand) ∧
    l.fallen.demand = (if k = .demand then l.demandAfter else l.demandKept) ∧ l.fallen.extraWait = 0 := by
  rcases l.fallen_cases with ⟨hn, -⟩ | ⟨k', hk, hf⟩
  · exact nomatch hn.symm.trans h
  · obtain rfl := Option.some.inj (hk.symm.trans h)
    simp [hf]

/-- R129, R141: the state after a fall, by what the attempt on the wire was. -/
theorem State.fellOut_fallen (s : State) : s.Fallen s.fellOut := by
  obtain ⟨h1, h2, h3, h4, h5, h6, h7, h8, h9, h10, -, h12, -, h14, h15⟩ := s.line.fallen_fields
  rw [State.Fallen, s.fellOut_line]
  -- What depends on the attempt is proved as one claim, by one case split on the wire.
  refine have ⟨hnotices, hsent, hdemand, hwait⟩ : _ ∧ _ ∧ _ ∧ _ := ?lists
    ⟨h1, h2, h3, h4, h5, h6, h7, h8, hnotices, hsent, hdemand, hwait, h9, h10, h12, h14, h15, ?blocks⟩
  case blocks =>
    rcases (s.withLine s.line.fallen).isolate_cases with ⟨hs, h⟩ | ⟨hs, h⟩ <;> rw [State.fellOut, h]
    · exact ⟨(if_pos hs).symm, fun hn => absurd hs hn, rfl⟩
    · exact ⟨(if_neg hs).symm, fun _ => rfl, rfl⟩
  case lists =>
    rcases hw : s.line.wire with _ | ⟨k, symbols, breaking, settles⟩
    · obtain ⟨hn, hd, hslot, hwait⟩ := Line.fallen_cut (l := s.line) (by simp [Line.sentWhole, hw])
      rw [hn, hd, hslot, hwait, Line.demandKept]
      cases s.line.demandNext <;> simp
    · cases symbols <;> cases breaking
      case nil.false =>
        obtain ⟨hn, hd, hslot, hwait⟩ := Line.fallen_whole (l := s.line) (k := k) (by simp [Line.sentWhole, hw])
        rw [hn, hd, hslot, hwait, Line.demandKept, Line.demandAfter]
        cases k <;> cases s.line.demandNext <;> simp
      all_goals
        obtain ⟨hn, hd, hslot, hwait⟩ := Line.fallen_cut (l := s.line) (by simp [Line.sentWhole, hw])
        rw [hn, hd, hslot, hwait, Line.demandKept]
        cases s.line.demandNext <;> simp

/-- R129: LINE FAULT and the activity count have no part in what a fall leaves. -/
theorem State.Fallen.of_counts {s t : State} {fault : Bool} {count : Nat}
    (h : (s.withLine { s.line with lineFault := fault, activityCount := count }).Fallen t) : s.Fallen t := by
  obtain ⟨h1, h2, h3, h4, h5, h6, h7, h8, h9, h10, h11, h12, h13, h14, h15, h16, h17, h18, h19, h20⟩ := h
  exact ⟨h1, h2, h3, h4, h5, h6, h7, h8, h9, h10, h11, h12, h13, h14, h15, h16, h17, h18, h19,
    congrArg (·.withLine s.line) h20⟩

/-- R127, R129: a fall leaves LINE FAULT, the monitor's state and its activity count, whether it restarts or not. -/
theorem State.fallOutOfStep_monitor (s : State) :
    s.fallOutOfStep.line.lineFault = s.line.lineFault ∧ s.fallOutOfStep.line.active = s.line.active ∧
    s.fallOutOfStep.line.activityCount = s.line.activityCount := by
  obtain ⟨-, -, -, -, -, -, -, -, hactive, -, hcount, -, hfault, -⟩ := s.line.fallen_fields
  rw [← s.fellOut_line] at hactive hcount hfault
  rcases s.fellOut.reportAll_cases (s.line.replies.map Queued.frame) with h | h <;> rw [s.fallOutOfStep_reports, h]
  · exact ⟨hfault, hactive, hcount⟩
  · obtain ⟨-, -, hactive', -, hcount', hfault', -⟩ := s.fellOut.warmRestart_line_fields
    exact ⟨hfault'.trans hfault, hactive'.trans hactive, hcount'.trans hcount⟩

/-- R129, R158: what a fall leaves of a station in step, and with the final reply of a restart among the replies that it
throws out. -/
theorem State.fallOutOfStep_fallen {s u : State} {fault : Bool} {count : Nat}
    (hu : u = s.withLine { s.line with lineFault := fault, activityCount := count }) :
    (¬ (s.cip.proc = .restarting ∧ ∃ q ∈ s.line.replies, q.frame.Final) → s.Fallen u.fallOutOfStep) ∧
    (s.cip.proc = .restarting → (∃ q ∈ s.line.replies, q.frame.Final) →
      ∃ v, s.Fallen v ∧ Completes .warmRestart v u.fallOutOfStep) := by
  obtain ⟨hplain, hfinal⟩ := State.reportAll_replies (s := u) (u := u.fellOut) (by simp [State.fellOut])
  subst hu
  have hfallen := (State.fellOut_fallen _).of_counts (s := s) (fault := fault) (count := count)
  refine ⟨fun h => ?_, fun hproc h => ⟨_, hfallen, congrArg _ (hfinal hproc h).symm⟩⟩
  rw [State.fallOutOfStep_reports, hplain h]
  exact hfallen

/-- R129: LOSS_OF_STEP. -/
theorem execLossOfStep_cases (s : State) :
    (s.line.inStep = true → execLossOfStep s = .next (s.withLine { s.line with lineFault := true }).fallOutOfStep) ∧
    (s.line.inStep = false →
      execLossOfStep s = .next (s.withLine { s.line with lineFault := true, inStepCount := 0 })) := by
  constructor <;> intro h
  · simp [execLossOfStep, h]
  · simp [execLossOfStep, h]
    rfl

/-- R127, R129: JABBER of an ACTIVE monitor. -/
theorem execJabber_cases {s : State} (hactive : s.line.active = true) :
    (s.line.inStep = true → execJabber s = .next (s.withLine { s.line with activityCount := 400 }).fallOutOfStep) ∧
    (s.line.inStep = false → execJabber s = .next (s.withLine { s.line with activityCount := 400 })) := by
  constructor <;> intro h <;> simp [execJabber, hactive, h, Config.jabberLimit]

/-! ### An address clash (R142, R160) -/

/-- R142, R160: the state as it enters listen-only, but for the reports of the replies that it throws out. -/
def State.clashed (s : State) : State := ((s.withLine s.line.clashed).withCip { s.cip with inbox := [] }).isolate

/-- R142: ADDRESS_CLASH of a station that is not in listen-only. -/
theorem execAddressClash_eq {s : State} (h : s.line.listenOnly = false) : execAddressClash s =
    .next ((s.line.replies.map Queued.frame).foldl State.reportReply s.clashed) := by
  simp [execAddressClash, h]
  rfl

/-- R110, R142, R160: the Line Interface and the inbox of a clash, and the blocks that it leaves. -/
theorem State.clashed_fields (s : State) :
    s.clashed.line = s.line.clashed ∧ s.clashed.cip = ⟨[], s.cip.proc⟩ ∧
    s.clashed.share = (if s.share.state = .isolated then s.share
      else { s.share with state := .isolated, joinCount := 0 }) ∧
    (s.share.state ≠ .isolated → s.clashed.book = []) ∧
    ({ s.clashed with line := s.line, cip := s.cip, share := s.share, book := s.book } : State) = s := by
  refine ⟨by simp [State.clashed], by simp [State.clashed], ?_⟩
  rcases ((s.withLine s.line.clashed).withCip { s.cip with inbox := [] }).isolate_cases with ⟨hs, h⟩ | ⟨hs, h⟩ <;>
    rw [State.clashed, h]
  · exact ⟨(if_pos hs).symm, fun hn => absurd hs hn, rfl⟩
  · exact ⟨(if_neg hs).symm, fun _ => rfl, rfl⟩

/-- Settles O51: a fall and a clash empty the lists, and a final reply among them makes the warm restart. -/
theorem lossAndClashSilenceStation : Obligations.LossAndClashSilenceStation := by
  refine ⟨fun s => ⟨fun hstep => ?_, (execLossOfStep_cases s).2, fun hactive _ => ?_⟩, fun s => ⟨fun hlisten => ?_,
    fun hlisten hwire => ?_⟩⟩
  · obtain ⟨hfault, -, -⟩ := (s.withLine { s.line with lineFault := true }).fallOutOfStep_monitor
    exact ⟨_, (execLossOfStep_cases s).1 hstep, hfault, State.fallOutOfStep_fallen rfl⟩
  · obtain ⟨hin, hout⟩ := execJabber_cases hactive
    cases hstep : s.line.inStep
    · exact ⟨_, hout hstep, hactive, rfl, fun _ => rfl, nofun, nofun⟩
    · obtain ⟨-, hkeeps, hcount⟩ := (s.withLine { s.line with activityCount := 400 }).fallOutOfStep_monitor
      obtain ⟨hplain, hfinal⟩ := State.fallOutOfStep_fallen (s := s) (count := 400) rfl
      exact ⟨_, hin hstep, hkeeps.trans hactive, hcount, nofun, fun _ => hplain, fun _ => hfinal⟩
  · show execAddressClash s = _
    rw [execAddressClash, if_pos hlisten]
  · obtain ⟨hline, hcip, hshare, hbook, hframe⟩ := s.clashed_fields
    obtain ⟨hplain, hfinal⟩ := s.reportAll_replies (u := s.clashed) (by rw [hcip])
    refine ⟨_, s.clashed, execAddressClash_eq hlisten, ?_, hplain, fun hproc h => congrArg _ (hfinal hproc h).symm⟩
    rw [hline]
    exact ⟨rfl, rfl, rfl, rfl, rfl, rfl, rfl, hcip, fun h => by simp [Line.clashed, Line.demandKept, h], hshare, hbook,
      hframe⟩

end Sys2Proof.Machine
end

section
/-! PROOFS. The rules of chapter 5 that OFFER, the rival frames and the window end share: the ranking of pairs, the choice
of a locker, and the CLAIM of a held order (R100, R103, R114). -/

namespace Sys2Proof.Machine

/-! ### Pairs and the clock (R42, R100) -/

/-- R100: the higher score, and among equal ones the lower station. -/
theorem ScorePair.beats_iff (p q : ScorePair) :
    p.beats q = true ↔ q.score < p.score ∨ (q.score = p.score ∧ p.station < q.station) := by
  rw [ScorePair.beats, Bool.or_eq_true, Bool.and_eq_true, decide_eq_true_eq, decide_eq_true_eq, beq_iff_eq,
    eq_comm (a := p.score)]

/-- R42: what it is for a minute of the day to be in the future. -/
theorem isFuture_iff (clock : Option Nat) (t : Nat) :
    isFuture clock t = true ↔ ∃ now, clock = some now ∧ ¬ DueAt now t := by
  cases clock with
  | none => simp [isFuture]
  | some now =>
    have hdue : isFuture (some now) t = !isDue (some now) t := by simp [isFuture, isDue]
    have hiff := isDue_iff (some now) t
    rw [hdue, Bool.not_eq_true', ← Bool.not_eq_true, hiff]
    simp

/-! ### The choice of a locker (R103) -/

/-- R103: an entry's candidate is free for no other. -/
theorem State.isCandidate_eq_false_iff (s : State) (i : Nat) :
    s.isCandidate i = false ↔ ∀ e ∈ s.book, e.candidate ≠ i := by
  simp [State.isCandidate]

theorem State.qualifies_iff (s : State) (i : Nat) : s.qualifies i = true ↔ s.Fit i := by
  unfold State.qualifies
  cases hr : s.locker? i <;> simp [State.Fit, hr, and_assoc, s.isCandidate_eq_false_iff i]

theorem State.Fit.mem_indices {s : State} {i : Nat} (h : s.Fit i) : i ∈ s.indices := by
  obtain ⟨r, hr, -⟩ := h
  exact State.mem_indices.mpr ⟨(State.locker?_eq_some hr).1, (State.locker?_eq_some hr).2.1⟩

theorem State.indices_sorted (s : State) : s.indices.Pairwise (· < ·) :=
  List.pairwise_map.mpr (List.pairwise_lt_range.imp fun h => Nat.succ_lt_succ h)

/-- R103: the warmest of a list in index order is the one that no other outranks. -/
theorem State.warmest_eq_some {s : State} {l : List Nat} {i : Nat} (hsorted : l.Pairwise (· < ·)) (hi : i ∈ l)
    (hbest : ∀ j ∈ l, s.tempAt j < s.tempAt i ∨ (s.tempAt j = s.tempAt i ∧ i ≤ j)) : s.warmest l = some i := by
  induction l with
  | nil => simp at hi
  | cons k rest ih =>
    obtain ⟨hfirst, hrest⟩ := List.pairwise_cons.mp hsorted
    rw [State.warmest]
    rcases List.mem_cons.mp hi with rfl | hi
    · cases hw : s.warmest rest with
      | none => rfl
      | some j =>
        have hj := hbest j (List.mem_cons_of_mem i (State.mem_of_warmest hw))
        exact if_pos (by omega)
    · have hk := hbest k List.mem_cons_self
      have hlt := hfirst i hi
      rw [ih hrest hi fun j hj => hbest j (List.mem_cons_of_mem k hj)]
      exact if_neg (by omega)

/-- R103: the candidate is the choice among the lockers that qualify. -/
theorem State.candidate?_of_chosen {s : State} {i : Nat} (h : s.Chosen i) : s.candidate? = some i := by
  obtain ⟨hfit, hbest⟩ := h
  refine State.warmest_eq_some (s.indices_sorted.filter _) ?_ fun j hj => ?_
  · exact List.mem_filter.mpr ⟨hfit.mem_indices, (s.qualifies_iff i).mpr hfit⟩
  · exact hbest j ((s.qualifies_iff j).mp (List.mem_filter.mp hj).2)

/-- R103: no record qualifies. -/
theorem State.candidate?_of_no_fit {s : State} (h : ∀ i, ¬ s.Fit i) : s.candidate? = none := by
  have hnone : s.indices.filter s.qualifies = [] :=
    List.filter_eq_nil_iff.mpr fun i _ hq => h i ((s.qualifies_iff i).mp hq)
  rw [State.candidate?, hnone, State.warmest]

/-! ### The CLAIM of a held order (R114) -/

theorem LockerState.pastReserved_eq (x : LockerState) : x.pastReserved = decide x.Past := by cases x <;> rfl

/-- R114, R115: the CLAIM of the record that holds the order. -/
theorem State.reassert_of_heldAt {s : State} {n i : Nat} {r : Locker} {o : OrderPart} (h : s.HeldAt n i r o) :
    s.reassert i = s.handOrder ⟨n, .claim o.score i (decide r.state.Past)⟩ := by
  obtain ⟨hr, ho, rfl⟩ := h
  simp [State.reassert, hr, ho, LockerState.pastReserved_eq]

theorem State.entry?_isSome_eq_false {s : State} {n : Nat} (h : ∀ e ∈ s.book, e.order ≠ n) :
    (s.entry? n).isSome = false := by
  rw [← Bool.not_eq_true, s.entry?_isSome_iff]
  exact fun ⟨e, he, hn⟩ => h e he hn

/-- The order list is none of the blocks that a row of one locker leaves. -/
theorem State.oneRow_handOrder (s : State) (i : Nat) (f : OrderFrame) : s.OneRow i (s.handOrder f) :=
  ⟨⟨by simp, fun j _ => by simp⟩, by simp [State.lockerSideOnly_iff]⟩

end Sys2Proof.Machine
end

section
/-! PROOFS. OFFER (O44). -/

namespace Sys2Proof.Machine

/-! ### Whether a bid may be made, and its score (R101, R102, R104) -/

theorem malformedOffer_iff (order cls collectBy digits : Nat) : malformedOffer order cls collectBy digits = true ↔
    order = 0 ∨ 999999 < order ∨ 7 < cls ∨ 1439 < collectBy ∨ 99 < digits := by
  simp [malformedOffer, or_assoc]

theorem State.mayBid_iff (s : State) (cls collectBy : Nat) : s.mayBid cls collectBy = true ↔
    s.share.state ≠ .isolated ∧ s.straps.commission = false ∧ s.time.classes.getD cls none ≠ none ∧
    (∃ now, s.time.clock = some now ∧ ¬ DueAt now collectBy) ∧ s.book.length < Config.bookCapacity := by
  have hset : isFuture s.time.clock collectBy = true → s.time.clock.isSome = true := by
    cases s.time.clock <;> simp [isFuture]
  rw [← isFuture_iff]
  simp only [State.mayBid, classAt, Bool.and_eq_true, bne_iff_ne, Bool.not_eq_true', Option.isSome_iff_ne_none,
    decide_eq_true_eq] at hset ⊢
  tauto

/-- R102: each condition whose failure refuses the bid. -/
theorem State.refuses_bid {s : State} {cls collectBy : Nat} (h : s.share.state = .isolated ∨
    s.straps.commission = true ∨ s.time.clock = none ∨ s.time.classes.getD cls none = none ∨
    (∃ now, s.time.clock = some now ∧ DueAt now collectBy) ∨ 8 ≤ s.book.length ∨ ∀ i, ¬ s.Fit i) :
    s.mayBid cls collectBy = false ∨ s.candidate? = none := by
  refine or_iff_not_imp_left.mpr fun hbid => ?_
  obtain ⟨hshare, hcom, hclass, ⟨now, hclock, hfuture⟩, hroom⟩ :=
    (s.mayBid_iff cls collectBy).mp (Bool.eq_true_of_not_eq_false hbid)
  rcases h with h | h | h | h | ⟨now', h, hdue⟩ | h | hnofit
  · exact absurd h hshare
  · simp [hcom] at h
  · simp [hclock] at h
  · exact absurd h hclass
  · obtain rfl : now = now' := Option.some.inj (hclock.symm.trans h)
    exact absurd hdue hfuture
  · exact absurd hroom (Nat.not_lt.mpr h)
  · exact State.candidate?_of_no_fit hnofit

/-- R104: v counts the VACANT records that are no entry's candidate. -/
theorem State.freeRoom_eq (s : State) : s.freeRoom =
    (s.indices.filter fun j => (s.locker? j).map Locker.state == some .vacant &&
      s.book.all fun e => e.candidate != j).length := by
  refine congrArg List.length (List.filter_congr fun j _ => ?_)
  have hfree : (!s.isCandidate j) = s.book.all fun e => e.candidate != j := by
    rw [State.isCandidate, List.not_any_eq_all_not]
    rfl
  cases hr : s.locker? j <;> simp [hfree]

/-- R104: the score of a new entry of a class that is set. -/
theorem State.score_eq {s : State} {cls : Nat} {c : ClassEntry} (h : s.time.classes.getD cls none = some c) (i : Nat) :
    s.score i cls = 100 * s.freeRoom + 10 * min 9 ((s.share.allowance - s.demandHU) / 8) +
      5 * (if c.floor ≤ s.tempAt i then 1 else 0) := by
  simp only [State.score, classAt, h, State.headroom, Config.heaterRating]

/-! ### The cases of an OFFER (R101) -/

section
variable {s : State} (src : Nat) {order cls collectBy digits : Nat}

theorem execOffer_malformed (h : malformedOffer order cls collectBy digits = true) :
    execOffer src order cls collectBy digits s = .next s := by rw [execOffer, if_pos h]

/-- R115: the order of a record. -/
theorem execOffer_held {i : Nat} (hform : ¬ malformedOffer order cls collectBy digits = true)
    (h : s.holder? order = some i) : execOffer src order cls collectBy digits s = .next (s.reassert i) := by
  rw [execOffer, if_neg hform, h]

/-- R101: the order of an open entry. -/
theorem execOffer_repeated (hform : ¬ malformedOffer order cls collectBy digits = true)
    (hnone : s.holder? order = none) (he : ∃ e ∈ s.book, e.order = order) :
    execOffer src order cls collectBy digits s = .next s := by
  simp only [execOffer, if_neg hform, hnone, if_pos ((s.entry?_isSome_iff order).mpr he)]

section
variable (hform : ¬ malformedOffer order cls collectBy digits = true) (hnone : s.holder? order = none)
  (hnew : ∀ e ∈ s.book, e.order ≠ order)
include hform hnone hnew

/-- R102: a new order that the bank may not bid for. -/
theorem execOffer_refused (h : s.mayBid cls collectBy = false ∨ s.candidate? = none) :
    execOffer src order cls collectBy digits s = .next s := by
  simp only [execOffer, if_neg hform, hnone, State.entry?_isSome_eq_false hnew]
  rcases h with h | h <;> simp [h]

/-- R105: a new order that the bank bids for. -/
theorem execOffer_bid {i : Nat} (hbid : s.mayBid cls collectBy = true) (hi : s.candidate? = some i) :
    execOffer src order cls collectBy digits s = .next (s.openEntry (s.newEntry order cls collectBy digits i)) := by
  simp [execOffer, hform, hnone, State.entry?_isSome_eq_false hnew, hbid, hi]

end

/-- R101, R105, R115: an OFFER moves the book and the order list alone. -/
theorem execOffer_frame {t : State} (h : execOffer src order cls collectBy digits s = .next t) :
    ({ t with book := s.book, line := s.line } : State) = s := by
  obtain rfl := Host.Outcome.next.inj h
  split
  · rfl
  · split
    next i _ =>
      rcases s.reassert_cases i with h | ⟨r, o, -, -, h⟩
      · rw [h]
      · rw [h]
        rfl
    · split
      · rfl
      · split
        · split <;> rfl
        · rfl

end

/-- Settles O44: the fields, then the holder of the order, then its open entry, and last the bid. -/
theorem offerOpensEntryOrReasserts : Obligations.OfferOpensEntryOrReasserts := by
  intro src order cls collectBy digits s hone
  obtain ⟨t, ht⟩ : ∃ t, execOffer src order cls collectBy digits s = .next t := ⟨_, rfl⟩
  have hout : ∀ {u}, execOffer src order cls collectBy digits s = .next u → t = u :=
    fun hu => Host.Outcome.next.inj (ht.symm.trans hu)
  refine ⟨t, ht, execOffer_frame src ht, fun hbad => hout (execOffer_malformed src ((malformedOffer_iff ..).mpr hbad)),
    fun h1 h2 h3 h4 h5 => ?_⟩
  have hform : ¬ malformedOffer order cls collectBy digits = true := by
    rw [malformedOffer_iff]
    omega
  refine ⟨fun i r o hh => ?_, fun hn he => ?_, fun hn hnew hrefused => ?_,
    fun hn hnew hshare hcom now c i hclock hfuture hclass hroom hchosen => ?_⟩
  · rw [hout (execOffer_held src hform (State.holder?_of_heldAt hone hh)), State.reassert_of_heldAt hh]
    rfl
  · exact hout (execOffer_repeated src hform ((s.holder?_eq_none_iff order).mpr hn) he)
  · have hnone := (s.holder?_eq_none_iff order).mpr hn
    exact hout (execOffer_refused src hform hnone hnew (State.refuses_bid hrefused))
  · have hnone := (s.holder?_eq_none_iff order).mpr hn
    have hset : s.time.classes.getD cls none ≠ none := hclass.trans_ne (Option.some_ne_none c)
    have hbid := (s.mayBid_iff cls collectBy).mpr ⟨hshare, hcom, hset, ⟨now, hclock, hfuture⟩, hroom⟩
    rw [hout (execOffer_bid src hform hnone hnew hbid (State.candidate?_of_chosen hchosen))]
    exact ⟨s.score i cls, by rw [State.score_eq hclass, State.freeRoom_eq], insertEntry_perm .., rfl⟩

end Sys2Proof.Machine
end

section
/-! PROOFS. BID, CLAIM and RESIGN of other stations (O45). -/

namespace Sys2Proof.Machine

/-! ### An open entry (R106, R107) -/

/-- R106: the first rival pair is recorded, and a later one where it beats the one recorded. -/
theorem BookEntry.record_eq (e : BookEntry) (p : ScorePair) :
    e.record p = if ∀ q, e.rival = some q → p.beats q = true then { e with rival := some p } else e := by
  unfold BookEntry.record
  cases hr : e.rival <;> simp

section
variable {s : State} (src score locker : Nat) {order : Nat}

theorem execClaim_entry (he : ∃ e ∈ s.book, e.order = order) (loaded : Bool) :
    execClaim src order score locker loaded s =
      .next (if loaded then s.dropEntry order else s.recordRival order ⟨score, src⟩) := by
  rw [execClaim, if_pos ((s.entry?_isSome_iff order).mpr he)]

/-! ### A held order (R116 to R118) -/

theorem execClaim_nowhere (hnew : ∀ e ∈ s.book, e.order ≠ order) (h : s.holder? order = none) (loaded : Bool) :
    execClaim src order score locker loaded s = .next s := by
  simp [execClaim, State.entry?_isSome_eq_false hnew, h]

theorem execClaim_held {i : Nat} (hnew : ∀ e ∈ s.book, e.order ≠ order) (h : s.holder? order = some i)
    (loaded : Bool) : execClaim src order score locker loaded s = .next (s.meetClaim i ⟨score, src⟩ loaded) := by
  simp [execClaim, State.entry?_isSome_eq_false hnew, h]

end

/-- R116, R117: a rival CLAIM against the record that holds the order. -/
theorem State.meetClaim_eq {s : State} {n i : Nat} {r : Locker} {o : OrderPart} (h : s.HeldAt n i r o)
    (rival : ScorePair) (loaded : Bool) : s.meetClaim i rival loaded =
      if r.state = .reserved then
        if loaded = true ∨ o.score < rival.score ∨ (o.score = rival.score ∧ rival.station < s.own) then
          s.yieldOrder i n
        else s.reassert i
      else if loaded = true then s else s.reassert i := by
  obtain ⟨hr, ho, rfl⟩ := h
  simp only [State.meetClaim, hr, ho, ScorePair.beats_iff]

/-- R118: the yielded record is VACANT and without heat, its RESIGN is handed, and nothing else changes. -/
theorem State.yieldOrder_fields {s : State} {i : Nat} {r : Locker} (h : s.locker? i = some r) (n : Nat) :
    (s.yieldOrder i n).locker? i = some { r.toVacant with level := 0 } ∧
    (s.yieldOrder i n).line = s.line.handOrder ⟨n, .resign i⟩ ∧ (s.yieldOrder i n).latch = s.latch ∧
    (s.yieldOrder i n).grant = { s.grant with list := s.grant.list.filter (· != i) } ∧
    s.OneRow i (s.yieldOrder i n) := by
  have hvac : (s.vacate i).locker? i = some r.toVacant := by simp [h]
  refine ⟨State.recompute_locker?_cold hvac rfl, by simp [State.yieldOrder], by simp [State.yieldOrder], ?_, ?_⟩
  · simpa [State.yieldOrder] using State.recompute_grant_cold hvac rfl
  · exact ((s.oneRow_vacate i).trans (State.oneRow_recompute ..)).trans (State.oneRow_handOrder ..)

/-- Settles O45: rivals meet an open entry, or else the one record that holds the order. -/
theorem rivalFramesAreMet : Obligations.RivalFramesAreMet := by
  refine ⟨fun src order score locker s => ?_, fun src order score locker s => ⟨rfl, fun he t ht => ?_, fun he => ?_⟩,
    fun src order score locker loaded s hone hnew => ?_⟩
  · refine congrArg (fun b => Host.Outcome.next (s.withBook b)) (List.map_congr_left fun e _ => ?_)
    rw [BookEntry.record_eq]
    by_cases ho : e.order = order
    · cases hr : e.rival <;> simp [ho, ScorePair.beats_iff]
    · simp [ho]
  · exact (execClaim_entry src score locker he false).trans ht
  · exact execClaim_entry src score locker he true
  by_cases hn : s.HeldNowhere order
  · have hexec := execClaim_nowhere src score locker hnew ((s.holder?_eq_none_iff order).mpr hn) loaded
    exact ⟨s, hexec, fun _ => rfl, fun i r o hh => absurd hh.2.2 (hn i r o hh.1 hh.2.1)⟩
  · obtain ⟨i, r, o, hh⟩ := State.heldAt_of_not_heldNowhere hn
    refine ⟨_, execClaim_held src score locker hnew (State.holder?_of_heldAt hone hh) loaded, fun h => absurd h hn,
      fun j q x hj => ?_⟩
    obtain ⟨rfl, rfl, rfl⟩ := State.heldAt_unique hone hh hj
    rw [State.meetClaim_eq hh, State.reassert_of_heldAt hh]
    have hnotreserved : q.state.Past → q.state ≠ .reserved := fun hpast hres => by
      simp [LockerState.Past, hres] at hpast
    refine ⟨fun hres hwins => ?_, fun hres hl hloses => ?_, fun hpast hl => ?_, fun hpast hl => ?_⟩
    · rw [if_pos hres, if_pos hwins]
      obtain ⟨hlocker, hline, hlatch, hgrant, hrow⟩ := State.yieldOrder_fields hh.1 order
      exact ⟨hlocker, hline, hlatch, hgrant, hrow.others, hrow.side⟩
    · rw [if_pos hres, if_neg (not_or.mpr ⟨by simp [hl], by dsimp only; omega⟩)]
      simp [hres, State.handOrder, State.withLine]
    · rw [if_neg (hnotreserved hpast), if_neg (by simp [hl]), decide_eq_true hpast]
      rfl
    · rw [if_neg (hnotreserved hpast), if_pos hl]

end Sys2Proof.Machine
end

section
/-! PROOFS. WINDOW_END (O46). -/

namespace Sys2Proof.Machine

/-! ### The judgement (R111) -/

/-- R99: an entry of the book is the one found by its order number. -/
theorem State.entry?_of_mem {s : State} (h : (s.book.map BookEntry.order).Nodup) {e : BookEntry} (he : e ∈ s.book) :
    s.entry? e.order = some e := by
  obtain ⟨x, hx⟩ := Option.isSome_iff_exists.mp ((s.entry?_isSome_iff e.order).mpr ⟨e, he, rfl⟩)
  have horder : x.order = e.order := by simpa using List.find?_some hx
  rw [hx, List.inj_on_of_nodup_map h (List.mem_of_find?_eq_some hx) he horder]

theorem State.wins_iff (s : State) (e : BookEntry) : s.wins e = true ↔
    (∀ q, e.rival = some q → q.score < e.score ∨ (q.score = e.score ∧ s.own < q.station)) ∧
    ∃ now, s.time.clock = some now ∧ ¬ DueAt now e.collectBy := by
  rw [State.wins, Bool.and_eq_true, isFuture_iff]
  cases e.rival <;> simp [ScorePair.beats_iff]

/-! ### The locker that is reserved (R112) -/

/-- R3: an order outside the held ones has no holder. -/
theorem State.holder?_of_notMem_heldOrders {s : State} {n : Nat} (h : n ∉ s.heldOrders) : s.holder? n = none :=
  (s.holder?_eq_none_iff n).mpr fun i r o hr ho hn =>
    h ((s.mem_heldOrders n).mpr ⟨i, o, by simp [State.orderAt, hr, ho], hn⟩)

/-- R5, R112: where no record holds the order, every locker that qualifies takes the reserve request. -/
theorem State.reserveChoice_eq {s : State} {e : BookEntry} (hnone : s.holder? e.order = none) :
    s.reserveChoice e = if s.qualifies e.candidate = true then some e.candidate else s.candidate? := by
  have htakes : ∀ i, (s.qualifies i && s.reservable i e.order) = s.qualifies i := fun i => by
    rw [Bool.and_eq_left_iff_imp, State.qualifies_iff, State.reservable_iff]
    rintro ⟨r, hr, hswept, hvacant, hcycle, -⟩
    exact ⟨r, hr, hswept, hvacant, hcycle, hnone⟩
  simp only [State.reserveChoice, htakes]
  rfl

section
variable {s : State} {e : BookEntry} (he : s.entry? e.order = some e)
include he

theorem execWindowEnd_lost (h : ¬ (s.dropEntry e.order).wins e = true) :
    execWindowEnd e.order s = .next (s.dropEntry e.order) := by
  simp [execWindowEnd, he, h]

theorem execWindowEnd_unplaced (h : (s.dropEntry e.order).reserveChoice e = none) :
    execWindowEnd e.order s = .next (s.dropEntry e.order) := by
  simp [execWindowEnd, he, h]

theorem execWindowEnd_claims {i : Nat} (hwins : (s.dropEntry e.order).wins e = true)
    (h : (s.dropEntry e.order).reserveChoice e = some i) :
    execWindowEnd e.order s = .next ((s.dropEntry e.order).claimFor e i) := by
  simp [execWindowEnd, he, hwins, h]

end

/-- R5, R112: the reserved record stands recomputed, its CLAIM is handed, and nothing else changes. -/
theorem State.claimFor_fields {s : State} {i : Nat} {r q : Locker} (e : BookEntry) (h : s.locker? i = some r)
    (hq : (r.reserve e).recomputed s.time.classes s.time.clock s.straps.commission = q) :
    (s.claimFor e i).locker? i = some q ∧
    (s.claimFor e i).line = s.line.handOrder ⟨e.order, .claim e.score i false⟩ ∧
    (s.claimFor e i).latch = s.latch ∧ (s.claimFor e i).book = s.book ∧
    (s.claimFor e i).grant =
      { s.grant with list := if q.level = 0 then s.grant.list.filter (· != i) else s.grant.list } ∧
    s.OneRow i (s.claimFor e i) := by
  subst hq
  have hres : (s.modLocker i fun r => r.reserve e).locker? i = some (r.reserve e) := by simp [h]
  refine ⟨by simp [State.claimFor, h], by simp [State.claimFor], by simp [State.claimFor], by simp [State.claimFor],
    ?_, ?_⟩
  · simpa [State.claimFor] using State.recompute_grant_eq hres
  · exact ((s.oneRow_modLocker i _).trans (State.oneRow_recompute ..)).trans (State.oneRow_handOrder ..)

/-- What a row of one locker changes beside the book, from which an entry has been taken. -/
theorem State.OneRow.besideBook {s t : State} {book : List BookEntry} {i : Nat} (h : (s.withBook book).OneRow i t) :
    s.OthersKept t i ∧ s.LockerSideOnly { t with book := s.book } := by
  obtain ⟨hstraps, htime, hscan, hkeypad, -, hshare, hcip, hlamp, howed, hties, hpend⟩ :=
    (State.lockerSideOnly_iff ..).mp h.side
  exact ⟨h.others, (State.lockerSideOnly_iff ..).mpr
    ⟨hstraps, htime, hscan, hkeypad, rfl, hshare, hcip, hlamp, howed, hties, hpend⟩⟩

/-- Settles O46: the entry leaves the book, and a won order is reserved in its candidate or the choice of R103. -/
theorem windowEndJudgesEntry : Obligations.WindowEndJudgesEntry := by
  rintro s e ⟨-, horders, -, hheld⟩ hmem
  have he := State.entry?_of_mem horders hmem
  have hchoice := State.reserveChoice_eq (s := s.dropEntry e.order) (State.holder?_of_notMem_heldOrders (hheld e hmem))
  obtain ⟨t, ht⟩ : ∃ t, execWindowEnd e.order s = .next t := ⟨_, rfl⟩
  have hout : ∀ {u}, execWindowEnd e.order s = .next u → t = u := fun hu => Host.Outcome.next.inj (ht.symm.trans hu)
  refine ⟨t, s.dropEntry e.order, ht, rfl, fun hends => ?_, fun now i r hclock hfuture hwins hfit hunfit hr => ?_⟩
  · rcases hends with ⟨q, hq, hbeaten⟩ | hdue | hnofit
    · refine hout (execWindowEnd_lost he fun hwins => hbeaten ?_)
      exact ((State.wins_iff ..).mp hwins).1 q hq
    · refine hout (execWindowEnd_lost he fun hwins => ?_)
      obtain ⟨-, now, hclock, hfuture⟩ := (State.wins_iff ..).mp hwins
      exact hfuture (hdue now hclock)
    · refine hout (execWindowEnd_unplaced he ?_)
      rw [hchoice, if_neg fun hq => hnofit _ ((State.qualifies_iff ..).mp hq), State.candidate?_of_no_fit hnofit]
  · have hplaced : (s.dropEntry e.order).reserveChoice e = some i := by
      rw [hchoice]
      by_cases hq : (s.dropEntry e.order).qualifies e.candidate = true
      · rw [if_pos hq, hfit ((State.qualifies_iff ..).mp hq)]
      · rw [if_neg hq, State.candidate?_of_chosen (hunfit fun hf => hq ((State.qualifies_iff ..).mpr hf))]
    rw [hout (execWindowEnd_claims he ((State.wins_iff ..).mpr ⟨hwins, now, hclock, hfuture⟩) hplaced)]
    obtain ⟨hlocker, hline, hlatch, hbook, hgrant, hrow⟩ :=
      State.claimFor_fields (s := s.dropEntry e.order) e hr rfl
    exact ⟨_, hlocker, rfl, hline, hlatch, hbook, hgrant, hrow.besideBook⟩

end Sys2Proof.Machine
end

section
/-! PROOFS. COLLISION by the list that the attempt serves (O49). -/

namespace Sys2Proof.Machine

/-! ### The frame on the wire after a collision (R136 to R138) -/

/-- R136: a frame counts one attempt more, and is given up at its eighth. -/
theorem Queued.retried_eq {α : Type} (q : Queued α) :
    q.retried = if q.attempts + 1 < 8 then some { q with attempts := q.attempts + 1 } else none := by
  rw [Queued.retried, Config.attemptLimit]
  by_cases hq : q.attempts + 1 < 8
  · rw [if_pos hq, if_neg (Nat.not_le.mpr hq)]
  · rw [if_neg hq, if_pos (Nat.not_lt.mp hq)]

theorem retryHead_cons {α : Type} (q : Queued α) (rest : List (Queued α)) :
    retryHead (q :: rest) = if q.attempts + 1 < 8 then { q with attempts := q.attempts + 1 } :: rest else rest := by
  rw [retryHead, q.retried_eq]
  by_cases hq : q.attempts + 1 < 8 <;> simp only [hq, if_true, if_false]

/-- R136, R137: the frames of a list whose head has collided are the same, or all but the first. -/
theorem retryHead_frames {α : Type} (list : List (Queued α)) :
    ((retryHead list).map Queued.frame).Sublist (list.map Queued.frame) := by
  cases list with
  | nil => exact .refl _
  | cons q rest =>
    rw [retryHead_cons]
    split <;> simp

theorem retryHead_length {α : Type} (list : List (Queued α)) : (retryHead list).length ≤ list.length := by
  simpa using (retryHead_frames list).length_le

/-- R136 to R138: the Line Interface after a collision of an attempt of this list. -/
def Line.retried (l : Line) (k : ListKind) (settles : Bool) : Line :=
  match k with
  | .reply => { l.collided settles with replies := retryHead l.replies }
  | .order => { l.collided settles with orders := l.ordersAfterCollision, orderNext := none }
  | .demand => { l.collided settles with demand := l.demandAfterCollision, demandNext := none }
  | .notice => { l.collided settles with notices := retryHead l.notices }

/-- R127, R136, R137: the wire, the backoff and the monitor after a collision, and the lists. -/
@[simp] theorem Line.retried_fields (l : Line) (k : ListKind) (settles : Bool) :
    (l.retried k settles).wire = none ∧ (l.retried k settles).backoff = nextBackoff l.backoff ∧
    (l.retried k settles).extraWait = 2 * ((nextBackoff l.backoff).toNat % 16) ∧
    (l.retried k settles).active = (if settles then false else l.active) ∧
    (l.retried k settles).accessCount = (if settles then 0 else l.accessCount) ∧
    (l.retried k settles).quietRun = (if settles then 0 else l.quietRun) ∧
    (l.retried k settles).activityCount = l.activityCount ∧
    (l.retried k settles).replies = (if k = .reply then retryHead l.replies else l.replies) ∧
    (l.retried k settles).orders = (if k = .order then l.ordersAfterCollision else l.orders) ∧
    (l.retried k settles).orderNext = (if k = .order then none else l.orderNext) ∧
    (l.retried k settles).demand = (if k = .demand then l.demandAfterCollision else l.demand) ∧
    (l.retried k settles).demandNext = (if k = .demand then none else l.demandNext) ∧
    (l.retried k settles).notices = (if k = .notice then retryHead l.notices else l.notices) := by
  cases k <;> simp [Line.retried, Line.collided_eq]

/-- R136 to R138: the state once the collision has been counted, before a reply that was given up is reported. -/
def State.frameCollided (s : State) (a : Attempt) : State := s.withLine (s.line.retried a.list a.settles)

/-- R136 to R138: the extra wait and the lists, of which the one that the attempt serves has moved. -/
theorem State.frameCollided_lists (s : State) (a : Attempt) :
    (s.frameCollided a).line.extraWait = 2 * ((nextBackoff s.line.backoff).toNat % 16) ∧
    (s.frameCollided a).line.replies = (if a.list = .reply then retryHead s.line.replies else s.line.replies) ∧
    (s.frameCollided a).line.orders = (if a.list = .order then s.line.ordersAfterCollision else s.line.orders) ∧
    (s.frameCollided a).line.orderNext = (if a.list = .order then none else s.line.orderNext) ∧
    (s.frameCollided a).line.demand = (if a.list = .demand then s.line.demandAfterCollision else s.line.demand) ∧
    (s.frameCollided a).line.demandNext = (if a.list = .demand then none else s.line.demandNext) ∧
    (s.frameCollided a).line.notices = (if a.list = .notice then retryHead s.line.notices else s.line.notices) := by
  simp [State.frameCollided]

/-- R139: the state once a reply that was given up has been reported, too. -/
def State.collisionReported (s : State) (a : Attempt) : State :=
  match a.list, s.line.replies.head? with
  | .reply, some q => if q.retried.isNone then (s.frameCollided a).reportReply q.frame else s.frameCollided a
  | _, _ => s.frameCollided a

/-- R136 to R139: COLLISION of an attempt, by the list that it serves. -/
theorem execCollision_wire {s : State} {a : Attempt} (h : s.line.wire = some a) :
    execCollision s = .next (s.collisionReported a) := by
  rw [execCollision, h]
  obtain ⟨k, symbols, breaking, settles⟩ := a
  cases k
  case reply => cases hq : s.line.replies.head? <;> simp [State.collisionReported, hq] <;> rfl
  all_goals rfl

/-- R139: a collision reports the head of the reply list, given up, or nothing. -/
theorem State.collisionReported_cases (s : State) (a : Attempt) :
    s.collisionReported a = s.frameCollided a ∨
    ∃ q rest, a.list = .reply ∧ s.line.replies = q :: rest ∧ 8 ≤ q.attempts + 1 ∧
      s.collisionReported a = (s.frameCollided a).reportReply q.frame := by
  unfold State.collisionReported
  split
  next q hk hq =>
    split
    next hgone =>
      obtain ⟨rest, hrest⟩ := List.head?_eq_some_iff.mp hq
      refine .inr ⟨q, rest, hk, hrest, ?_, rfl⟩
      by_contra hn
      simp [q.retried_eq, Nat.not_le.mp hn] at hgone
    · exact .inl rfl
  · exact .inl rfl

/-! ### The backoff register and the monitor (R127, R136) -/

/-- R136: the register shifts in the inverse of the exclusive-or of its bits 7, 5, 4 and 3. -/
theorem nextBackoff_bits (b : BitVec 8) :
    (nextBackoff b).getLsbD 0 = !(b.getLsbD 7 ^^ b.getLsbD 5 ^^ b.getLsbD 4 ^^ b.getLsbD 3) ∧
    ∀ k, k < 7 → (nextBackoff b).getLsbD (k + 1) = b.getLsbD k := by
  refine ⟨by simp [nextBackoff], fun k hk => ?_⟩
  simp [nextBackoff]
  omega

/-- R127, R136: the wire free, the backoff drawn, and the monitor SETTLED where the BREAK settles it. -/
structure State.BackedOff (s : State) (a : Attempt) (t : State) : Prop where
  wire : t.line.wire = none
  settled : a.settles = true → t.line.active = false ∧ t.line.accessCount = 0
  left : a.settles = false → t.line.active = s.line.active ∧ t.line.accessCount = s.line.accessCount ∧
    t.line.quietRun = s.line.quietRun
  activityCount : t.line.activityCount = s.line.activityCount
  backoff : t.line.backoff = nextBackoff s.line.backoff

theorem State.backedOff_frameCollided (s : State) (a : Attempt) : s.BackedOff a (s.frameCollided a) := by
  constructor <;> simp +contextual [State.frameCollided]

/-- R133: notices that are queued one after another stay within the capacity. -/
theorem Line.foldl_pushNotice_length {l : Line} (h : l.notices.length ≤ Config.noticeCapacity) (fs : List NoticeFrame) :
    (fs.foldl Line.pushNotice l).notices.length ≤ Config.noticeCapacity := by
  induction fs generalizing l with
  | nil => exact h
  | cons f fs ih => exact ih (Line.pushNotice_length f h)

/-- R28, R133, R145: the line after a warm restart is as restarted, but for the notices of the records. -/
theorem State.warmRestart_line_restarted (s : State) : ∃ notices,
    s.warmRestart.line = { s.line.restarted with notices := notices } ∧ notices.length ≤ Config.noticeCapacity := by
  rw [s.warmRestart_line]
  generalize (s.indices.filterMap fun i => (s.locker? i).bind (Locker.revertNotice s.time.classes s.time.clock i)) = fs
  obtain ⟨notices, h⟩ := s.line.restarted.foldl_pushNotice_eq fs
  have hlen := Line.foldl_pushNotice_length (l := s.line.restarted) (Nat.zero_le _) fs
  rw [h] at hlen ⊢
  exact ⟨notices, rfl, hlen⟩

/-- R145: a warm restart keeps the backoff register and the line monitor. -/
theorem State.BackedOff.warmRestart {s t : State} {a : Attempt} (h : s.BackedOff a t) :
    s.BackedOff a t.warmRestart := by
  obtain ⟨notices, hline, -⟩ := t.warmRestart_line_restarted
  have hquiet : t.warmRestart.line.quietRun = t.line.quietRun := by rw [hline]; rfl
  obtain ⟨hwire, -, hactive, haccess, hactivity, -, hbackoff⟩ := t.warmRestart_line_fields
  constructor
  case wire => exact hwire
  case settled => rw [hactive, haccess]; exact h.settled
  case left => rw [hactive, haccess, hquiet]; exact h.left
  case activityCount => rw [hactivity, h.activityCount]
  case backoff => rw [hbackoff, h.backoff]

theorem State.backedOff_collisionReported (s : State) (a : Attempt) : s.BackedOff a (s.collisionReported a) := by
  have hcollided := s.backedOff_frameCollided a
  rcases s.collisionReported_cases a with h | ⟨q, rest, -, -, -, h⟩ <;> rw [h]
  · exact hcollided
  · rcases (s.frameCollided a).reportReply_cases q.frame with hr | ⟨-, -, hr⟩ <;> rw [hr]
    · exact hcollided
    · exact hcollided.warmRestart

/-- R136: a frame of another list than the replies is not reported. -/
theorem State.collisionReported_of_ne_reply {s : State} {a : Attempt} (h : a.list ≠ .reply) :
    s.collisionReported a = s.frameCollided a := by
  rcases s.collisionReported_cases a with hr | ⟨q, rest, hk, -⟩
  · exact hr
  · exact absurd hk h

/-- R139, R158: a reply that was given up is reported, and the final one makes the warm restart. -/
theorem State.collisionReported_reply {s : State} {a : Attempt} (hk : a.list = .reply) {q : Queued ReplyFrame}
    {rest : List (Queued ReplyFrame)} (hq : s.line.replies = q :: rest) :
    (¬ (8 ≤ q.attempts + 1 ∧ s.cip.proc = .restarting ∧ q.frame.Final) →
      s.collisionReported a = s.frameCollided a) ∧
    (8 ≤ q.attempts + 1 → s.cip.proc = .restarting → q.frame.Final →
      s.collisionReported a = (s.frameCollided a).warmRestart) := by
  constructor
  · intro hn
    rcases s.collisionReported_cases a with h | ⟨p, rest', -, hp, hgone, h⟩ <;> rw [h]
    obtain ⟨rfl, -⟩ := List.cons.inj (hq.symm.trans hp)
    exact State.reportReply_of_not_final fun ⟨hproc, hf⟩ => hn ⟨hgone, hproc, hf⟩
  · intro hgone hproc hf
    have hnone : q.retried = none := by rw [q.retried_eq, if_neg (Nat.not_lt.mpr hgone)]
    simp only [State.collisionReported, hk, hq, List.head?_cons, hnone, Option.isNone_none, if_true]
    exact State.reportReply_of_final hproc hf

/-- Settles O49: the backoff and the monitor whatever the list, and then the list that the attempt serves. -/
theorem collisionDrawsBackoffAndRetries : Obligations.CollisionDrawsBackoffAndRetries := by
  intro s a hwire
  obtain ⟨hfree, hsettled, hleft, hactivity, hbackoff⟩ := s.backedOff_collisionReported a
  obtain ⟨hbit, hshift⟩ := nextBackoff_bits s.line.backoff
  obtain ⟨hwait, hreplies, horders, hnext, hdemand, hdnext, hnotices⟩ := s.frameCollided_lists a
  refine ⟨_, execCollision_wire hwire, hfree, hsettled, hleft, hactivity, by rw [hbackoff, hbit],
    fun k hk => by rw [hbackoff, hshift k hk], fun hk => ?_, fun hk => ?_, fun hk => ?_, fun hk => ?_,
    fun hk q rest hq => ?_⟩
  case refine_1 =>
    rw [hbackoff, State.collisionReported_of_ne_reply hk]
    exact ⟨hwait, hreplies.trans (if_neg hk), rfl⟩
  case refine_2 =>
    simp only [hk, reduceCtorEq, if_true, if_false] at horders hnext hdemand hnotices
    rw [State.collisionReported_of_ne_reply (by simp [hk])]
    exact ⟨fun f hf => horders.trans (by simp [Line.ordersAfterCollision, hf]), fun q rest hn hq =>
      horders.trans (by simp [Line.ordersAfterCollision, hn, hq, retryHead_cons]), hnext, hdemand, hnotices⟩
  case refine_3 =>
    simp only [hk, reduceCtorEq, if_true, if_false] at horders hdemand hdnext hnotices
    rw [State.collisionReported_of_ne_reply (by simp [hk])]
    exact ⟨fun f hf => hdemand.trans (by simp [Line.demandAfterCollision, hf]), fun q hn hq =>
      hdemand.trans (by simp [Line.demandAfterCollision, hn, hq, Queued.retried_eq]), hdnext, horders, hnotices⟩
  case refine_4 =>
    simp only [hk, reduceCtorEq, if_true, if_false] at horders hdemand hnotices
    rw [State.collisionReported_of_ne_reply (by simp [hk])]
    exact ⟨fun q rest hq => hnotices.trans (by rw [hq, retryHead_cons]), horders, hdemand⟩
  case refine_5 =>
    simp only [hk, reduceCtorEq, if_true, if_false] at hreplies horders hdemand hnotices
    obtain ⟨hplain, hfinal⟩ := State.collisionReported_reply hk hq
    have hretried := hreplies.trans (by rw [hq, retryHead_cons])
    refine ⟨fun hn => ?_, fun hgone hproc hf => ⟨s.frameCollided a, ?_, rfl, ?_⟩⟩
    · rw [hbackoff, hplain hn]
      exact ⟨hretried, hwait, horders, hdemand, hnotices, rfl⟩
    · exact hretried.trans (if_neg (Nat.not_lt.mpr hgone))
    · rw [hfinal hgone hproc hf]
      rfl

end Sys2Proof.Machine
end

section
/-! PROOFS. What the blocks hand to the transmit lists: the relation `Hands`, by which notices and order frames alone
reach the Line Interface, and the laws of the order list and the notice list (O12). -/

namespace Sys2Proof.Machine

/-! ### The order list and the notice list (R131, R133, R138) -/

/-- R131, R133, R138: the two lists within their capacities, one frame for an order number, and a pending replacement
for the head alone. -/
abbrev Line.ListsFit (l : Line) : Prop :=
  l.orders.length ≤ Config.orderCapacity ∧ (l.orders.map fun q => q.frame.order).Nodup ∧
  (∀ f ∈ l.orderNext, l.orders.head?.map (fun q => q.frame.order) = some f.order) ∧
  l.notices.length ≤ Config.noticeCapacity

theorem State.listLaw_iff (s : State) : s.ListLaw ↔ s.line.replies.length + s.cip.proc.owed ≤ Config.replyCapacity ∧
    s.line.ListsFit ∧ s.cip.inbox.length ≤ Config.inboxCapacity := by
  simp only [State.ListLaw, Line.ListsFit, and_assoc]

theorem Line.ListsFit.pushNotice {l : Line} (h : l.ListsFit) (f : NoticeFrame) : (l.pushNotice f).ListsFit := by
  obtain ⟨hlen, hone, hnext, hnotices⟩ := h
  have hpushed := Line.pushNotice_length f hnotices
  simp only [Line.ListsFit, Line.pushNotice_frame]
  exact ⟨hlen, hone, hnext, hpushed⟩

/-- R131: a frame put in the place of the one of its order leaves the order numbers. -/
theorem map_order_replace (orders : List (Queued OrderFrame)) (f : OrderFrame) :
    ((orders.map fun q => if q.frame.order = f.order then (⟨f, 0⟩ : Queued OrderFrame) else q).map
      fun q => q.frame.order) = orders.map fun q => q.frame.order := by
  rw [List.map_map]
  refine List.map_congr_left fun q _ => ?_
  by_cases hq : q.frame.order = f.order <;> simp [hq]

/-- R131, R138: the three things that a frame handed to the order list can do there. -/
theorem Line.handOrder_cases (l : Line) (f : OrderFrame) :
    l.handOrder f = l ∨
    (l.orders.head?.map (fun q => q.frame.order) = some f.order ∧ l.handOrder f = { l with orderNext := some f }) ∨
    l.handOrder f = { l with orders := l.orders.map fun q => if q.frame.order = f.order then ⟨f, 0⟩ else q } ∨
    ((∀ q ∈ l.orders, q.frame.order ≠ f.order) ∧ l.orders.length < Config.orderCapacity ∧
      l.handOrder f = { l with orders := l.orders ++ [⟨f, 0⟩] }) := by
  unfold Line.handOrder
  split
  · exact .inl rfl
  · split
    · split
      next hhead => exact .inr (.inl ⟨by simpa using (Bool.and_eq_true_iff.mp hhead).2, rfl⟩)
      · exact .inr (.inr (.inl rfl))
    next hnew =>
      split
      next hroom => exact .inr (.inr (.inr ⟨by simpa using hnew, hroom, rfl⟩))
      · exact .inl rfl

theorem Line.ListsFit.handOrder {l : Line} (h : l.ListsFit) (f : OrderFrame) : (l.handOrder f).ListsFit := by
  rcases l.handOrder_cases f with hc | ⟨hhead, hc⟩ | hc | ⟨hnew, hroom, hc⟩ <;> rw [hc]
  · exact h
  all_goals obtain ⟨hlen, hone, hnext, hnotices⟩ := h
  · exact ⟨hlen, hone, by simpa using hhead, hnotices⟩
  · have horders := map_order_replace l.orders f
    refine ⟨by simpa using hlen, by rwa [horders], fun g hg => ?_, hnotices⟩
    rw [← hnext g hg, ← List.head?_map, ← List.head?_map, horders]
  · refine ⟨by simp; omega, ?_, fun g hg => ?_, hnotices⟩
    · rw [List.map_append]
      exact List.nodup_append.mpr ⟨hone, by simp, by simpa using hnew⟩
    · obtain ⟨q, hq, hqg⟩ := Option.map_eq_some_iff.mp (hnext g hg)
      simp [List.head?_append, hq, hqg]

/-! ### What hands notices and order frames alone -/

/-- The inbox, the processor and the reply list stand, and the order list and the notice list keep their laws. -/
structure State.Hands (s t : State) : Prop where
  cip : t.cip = s.cip
  replies : t.line.replies = s.line.replies
  fit : s.line.ListsFit → t.line.ListsFit

theorem State.Hands.refl (s : State) : s.Hands s := ⟨rfl, rfl, id⟩

theorem State.Hands.trans {s t u : State} (h : s.Hands t) (h' : t.Hands u) : s.Hands u :=
  ⟨h'.cip.trans h.cip, h'.replies.trans h.replies, h'.fit ∘ h.fit⟩

/-- R130 to R133, R146: such a run keeps the capacities. -/
theorem State.Hands.listLaw {s t : State} (h : s.Hands t) (hs : s.ListLaw) : t.ListLaw := by
  rw [State.listLaw_iff] at hs ⊢
  obtain ⟨hreplies, hfit, hinbox⟩ := hs
  rw [h.cip, h.replies]
  exact ⟨hreplies, h.fit hfit, hinbox⟩

/-- What leaves the four lists of the line hands nothing. -/
theorem State.hands_withLine (s : State) {l : Line} (hreplies : l.replies = s.line.replies := by rfl)
    (horders : l.orders = s.line.orders := by rfl) (hnext : l.orderNext = s.line.orderNext := by rfl)
    (hnotices : l.notices = s.line.notices := by rfl) : s.Hands (s.withLine l) :=
  ⟨rfl, hreplies, by simpa only [Line.ListsFit, State.withLine_line, horders, hnext, hnotices] using id⟩

/-! Each operation, after such a run. -/

section
variable {s t : State} (h : s.Hands t)
include h

/-- What leaves the line and the CIP as they were. -/
theorem State.Hands.beside {u : State} (hline : u.line = t.line := by simp) (hcip : u.cip = t.cip := by simp) :
    s.Hands u := h.trans ⟨hcip, by rw [hline], by rw [hline]; exact id⟩

theorem State.Hands.modLocker (i : Nat) (f : Locker → Locker) : s.Hands (t.modLocker i f) := h.beside

theorem State.Hands.modPins (i : Nat) (f : LockerPins → LockerPins) : s.Hands (t.modPins i f) := h.beside

theorem State.Hands.withLatch (x : Latch) : s.Hands (t.withLatch x) := h.beside

theorem State.Hands.withBook (x : List BookEntry) : s.Hands (t.withBook x) := h.beside

theorem State.Hands.withKeypad (x : Keypad) : s.Hands (t.withKeypad x) := h.beside

theorem State.Hands.recompute (i : Nat) : s.Hands (t.recompute i) := h.beside

theorem State.Hands.recomputeAll : s.Hands t.recomputeAll := h.beside

theorem State.Hands.vacate (i : Nat) : s.Hands (t.vacate i) := h.beside

theorem State.Hands.beginCycle (i : Nat) : s.Hands (t.beginCycle i) := h.beside

theorem State.Hands.isolate : s.Hands t.isolate := h.beside

theorem State.Hands.notify (i : Nat) (e : NoticeEvent) (why : NoticeReason) (n : Nat) : s.Hands (t.notify i e why n) :=
  h.trans ⟨rfl, by simp, fun hfit => hfit.pushNotice _⟩

theorem State.Hands.handOrder (f : OrderFrame) : s.Hands (t.handOrder f) :=
  h.trans ⟨rfl, by simp, fun hfit => hfit.handOrder f⟩

theorem State.Hands.reassert (i : Nat) : s.Hands (t.reassert i) := by
  rcases t.reassert_cases i with hr | ⟨r, o, -, -, hr⟩ <;> rw [hr]
  · exact h
  · exact h.handOrder _

theorem State.Hands.retire (i : Nat) (why : RetireReason) : s.Hands (t.retire i why) := by
  cases hr : t.locker? i with
  | none => rwa [State.retire_none hr]
  | some r => rw [State.retire_some hr]; exact (h.modLocker i _).notify ..

theorem State.Hands.strike (i : Nat) (why : FaultReason) : s.Hands (t.strike i why) := by
  cases hr : t.locker? i with
  | none => rwa [State.strike_none hr]
  | some r =>
    rw [State.strike_some hr]
    split
    · exact h
    · exact (h.modLocker i _).notify ..

theorem State.Hands.holdChecks (i : Nat) : s.Hands (t.holdChecks i) := by
  rcases t.holdChecks_cases i with hc | hc | hc <;> rw [hc]
  · exact h
  · exact h.retire ..
  · exact h.retire ..

theorem State.Hands.forEach {f : State → Nat → State} (hf : ∀ (u : State) i, u.Hands (f u i)) : s.Hands (t.forEach f) :=
  State.forEach_keeps h fun u i _ hu => hu.trans (hf u i)

theorem State.Hands.takeResult (i : Nat) : s.Hands (t.takeResult i) := by
  cases hr : t.locker? i with
  | none => simpa [State.takeResult, hr] using h
  | some r =>
    rcases State.takeResult_cases hr with ⟨-, ht⟩ | ⟨-, ht⟩ <;> rw [ht]
    · rcases State.probeFault_cases hr with ⟨-, hp⟩ | ⟨-, hp⟩ <;> rw [hp]
      · exact ((h.withLatch _).modLocker i _).strike ..
      · exact h.strike ..
    · rcases State.judgeReady_cases hr with ⟨-, hp⟩ | ⟨-, hp⟩ <;> rw [hp]
      · exact (h.modLocker i _).notify ..
      · exact h

theorem State.Hands.sample (i raw : Nat) : s.Hands (t.sample i raw) := ((h.modLocker i _).takeResult i).recompute i

theorem State.Hands.takeOpening (i : Nat) : s.Hands (t.takeOpening i) := by
  cases hr : t.locker? i with
  | none => simpa [State.takeOpening, hr] using h
  | some r =>
    rcases State.takeOpening_cases hr with ⟨-, ho⟩ | ⟨-, ho⟩ | ⟨-, ho⟩ | ⟨-, ho⟩ <;> rw [ho]
    · exact h.modLocker i _
    · exact h
    · exact (h.withLatch _).modLocker i _
    · exact ((h.withLatch _).modLocker i _).strike ..

theorem State.Hands.takeClose (i : Nat) : s.Hands (t.takeClose i) := by
  cases hr : t.locker? i with
  | none => simpa [State.takeClose, hr] using h
  | some r =>
    rcases State.takeClose_cases hr with ⟨-, hc⟩ | ⟨-, hc⟩ <;> rw [hc]
    · exact h
    · refine State.Hands.modLocker ?_ i _
      rcases t.judgeClose_cases i r with ⟨-, hj⟩ | ⟨why, hj⟩ | ⟨e, hj⟩ | ⟨-, hj⟩ | ⟨-, hj⟩ | ⟨-, hj⟩ <;> rw [hj]
      · exact h
      · exact h.retire ..
      · exact (h.notify ..).vacate i
      · exact (h.modLocker i _).notify ..
      · exact h.modLocker i _
      · exact ((h.modLocker i _).notify ..).holdChecks i

theorem State.Hands.trayChange (i : Nat) (present : Bool) : s.Hands (t.trayChange i present) := by
  unfold State.trayChange
  split
  · exact h
  · split
    · have hheld := (h.modPins i fun p => { p with trayPresent := present }).modLocker i
        fun r => { r with trayPresent := present, traySettle := none }
      dsimp only
      split
      · exact (hheld.strike i .tray).recompute i
      · exact hheld
    · exact h

theorem State.Hands.checkLimits (i : Nat) : s.Hands (t.checkLimits i) := by
  cases hr : t.locker? i with
  | none => simpa [State.checkLimits, hr] using h
  | some r =>
    rw [State.checkLimits_eq hr]
    cases r.limitVerdict t.time.classes with
    | none => exact h
    | some why => exact h.retire i why

theorem State.Hands.judgeMinute (i : Nat) : s.Hands (t.judgeMinute i) := by
  unfold State.judgeMinute
  split
  · exact h
  · split
    · exact h
    · split
      · split
        · exact (h.notify ..).vacate i
        · exact h
      · split
        · exact h
        · split
          · exact h.retire ..
          · exact h
      · exact h

end

end Sys2Proof.Machine
end

section
/-! PROOFS. Every row and every symbol time keeps the capacities of the lists (O12). -/

namespace Sys2Proof.Machine

/-! ### Rows that hand notices and order frames alone -/

/-- The rows of the lockers, the ticks, the orders, the keypad and the power: none of them touches the inbox, the
processor or the reply list. -/
def handsOnly : Instr → Bool
  | .firstSweepReading .. | .probeSample .. | .doorOpened _ | .doorClosed _ | .trayAppeared _ | .trayRemoved _ | .ajar _
  | .openWaitExpired _ | .pulseEnded | .secondTick | .minuteTick | .flashPhase | .lampFrame | .lampTestEnd | .shareTick
  | .grantRound | .demand .. | .offer .. | .bid .. | .claim .. | .resign .. | .windowEnd _ | .time .. | .shed ..
  | .notice .. | .reply .. | .frameDiscarded | .attemptStart | .lineSettled | .inStep | .lineFaultCleared
  | .feederTripAsserted | .feederTripCleared | .supplyLowAsserted | .supplyLowCleared | .digitKey _ | .clearKey
  | .enterKey | .keyReject .. | .keysReleased | .entryTimeout | .strikeAgedOut | .lockoutEnd | .beeperPatternEnd
  | .lineActive => true
  | _ => false

section
variable {s t : State} {i : Nat}

theorem hands_execFirstSweepReading {raw : Nat} {door tray : Bool}
    (h : execFirstSweepReading i door tray raw s = .next t) : s.Hands t := by
  obtain rfl := Host.Outcome.next.inj h
  split
  · exact .refl s
  · split
    · exact .refl s
    · have hread := ((State.Hands.refl s).modPins i fun _ => ⟨door, tray, raw⟩).modLocker i
        fun r => r.firstRead door tray
      dsimp only
      split
      · exact (hread.retire i _).sample i raw
      · exact hread.sample i raw

theorem hands_execProbeSample {raw : Nat} (h : execProbeSample i raw s = .next t) : s.Hands t := by
  obtain rfl := Host.Outcome.next.inj h
  split
  · exact .refl s
  · split
    · exact ((State.Hands.refl s).modPins i _).sample i raw
    · exact .refl s

theorem hands_execDoorOpened (h : execDoorOpened i s = .next t) : s.Hands t := by
  obtain rfl := Host.Outcome.next.inj h
  split
  · exact .refl s
  · split
    · exact ((((State.Hands.refl s).modPins i _).modLocker i _).takeOpening i).recompute i
    · exact .refl s

theorem hands_execDoorClosed (h : execDoorClosed i s = .next t) : s.Hands t := by
  obtain rfl := Host.Outcome.next.inj h
  split
  · exact .refl s
  · split
    · exact ((((State.Hands.refl s).modPins i _).modLocker i _).takeClose i).recompute i
    · exact .refl s

theorem hands_execAjar (h : execAjar i s = .next t) : s.Hands t := by
  obtain rfl := Host.Outcome.next.inj h
  split
  · exact .refl s
  · split
    · exact ((State.Hands.refl s).modLocker i _).notify ..
    · exact .refl s

theorem hands_execOpenWaitExpired (h : execOpenWaitExpired i s = .next t) : s.Hands t := by
  obtain rfl := Host.Outcome.next.inj h
  split
  · exact .refl s
  · split
    · split
      · exact (State.Hands.refl s).beside
      · exact (((State.Hands.refl s).modLocker i _).strike ..).recompute i
    · exact .refl s

end

theorem hands_execSecondTick {s t : State} (h : execSecondTick s = .next t) : s.Hands t := by
  obtain rfl := Host.Outcome.next.inj h
  have hcounted : s.Hands s.secondCounted := ⟨rfl, rfl, id⟩
  have hchecked : s.Hands s.secondChecked := hcounted.forEach fun u i => (State.Hands.refl u).checkLimits i
  exact State.Hands.recomputeAll (hchecked.beside rfl rfl)

theorem hands_execMinuteTick {s t : State} (h : execMinuteTick s = .next t) : s.Hands t := by
  obtain rfl := Host.Outcome.next.inj h
  have hclock : s.Hands (s.withTime s.time.minuteTick) := ⟨rfl, rfl, id⟩
  exact (hclock.forEach fun u i => (State.Hands.refl u).judgeMinute i).recomputeAll

/-- R132: the DEMAND slot is no list. -/
theorem Line.refillDemand_lists (l : Line) (f : DemandFrame) : (l.refillDemand f).replies = l.replies ∧
    (l.refillDemand f).orders = l.orders ∧ (l.refillDemand f).orderNext = l.orderNext ∧
    (l.refillDemand f).notices = l.notices := by
  unfold Line.refillDemand
  split <;> exact ⟨rfl, rfl, rfl, rfl⟩

/-- R95: a share tick refills the DEMAND slot, which is no list. -/
theorem hands_execShareTick {s t : State} (h : execShareTick s = .next t) : s.Hands t := by
  rw [execShareTick_eq] at h
  obtain rfl := Host.Outcome.next.inj h
  have hline := State.settleShare_line s.agePeerTable.countUnsent
  obtain ⟨-, -, -, -, -, -, -, hcounted, -⟩ := s.countUnsent_fields
  rw [hcounted] at hline
  obtain ⟨hreplies, horders, hnext, hnotices⟩ := s.line.refillDemand_lists _
  have hslot := s.hands_withLine hreplies horders hnext hnotices
  exact hslot.beside hline (by simp)

theorem hands_execOffer {s t : State} {src order cls collectBy digits : Nat}
    (h : execOffer src order cls collectBy digits s = .next t) : s.Hands t := by
  obtain rfl := Host.Outcome.next.inj h
  have hs := State.Hands.refl s
  split
  · exact hs
  · split
    · exact hs.reassert _
    · split
      · exact hs
      · split
        · split
          · exact (hs.withBook _).handOrder _
          · exact hs
        · exact hs

theorem hands_execClaim {s t : State} {src order score locker : Nat} {loaded : Bool}
    (h : execClaim src order score locker loaded s = .next t) : s.Hands t := by
  obtain rfl := Host.Outcome.next.inj h
  have hs := State.Hands.refl s
  split
  · split
    · exact hs.beside rfl rfl
    · exact hs.beside rfl rfl
  · split
    · unfold State.meetClaim
      split
      · exact hs
      · split
        · exact hs
        · split
          · split
            · exact ((hs.vacate _).recompute _).handOrder _
            · exact hs.reassert _
          · split
            · exact hs
            · exact hs.reassert _
    · exact hs

theorem hands_execWindowEnd {s t : State} {order : Nat} (h : execWindowEnd order s = .next t) : s.Hands t := by
  obtain rfl := Host.Outcome.next.inj h
  split
  · exact .refl s
  next e _ =>
    have hdrop : s.Hands (s.dropEntry order) := ⟨rfl, rfl, id⟩
    dsimp only
    split
    · split
      · exact ((hdrop.modLocker _ _).recompute _).handOrder _
      · exact hdrop
    · exact hdrop

/-- R25: a match request opens a record, or leaves the state. -/
theorem State.hands_matchRequest (s : State) (order digits : Nat) : s.Hands (s.matchRequest order digits).1 := by
  unfold State.matchRequest
  split
  · exact .refl s
  · split
    · exact .refl s
    · split
      · exact (State.Hands.refl s).beside
      · exact .refl s

theorem hands_execEnterKey {s t : State} (h : execEnterKey s = .next t) : s.Hands t := by
  obtain rfl := Host.Outcome.next.inj h
  have hkey : s.Hands (s.acceptKey .enter) := ⟨rfl, rfl, id⟩
  split
  · dsimp only
    split
    · exact hkey
    · unfold State.judgeEntry
      dsimp only
      split
      · exact hkey.withKeypad _
      · split
        · exact (hkey.withKeypad _).withKeypad _
        · exact ((hkey.withKeypad _).trans (State.hands_matchRequest _ _ _)).withKeypad _
  · exact .refl s

theorem hands_exec {c : Instr} {s t : State} (hc : handsOnly c = true) (h : exec c s = .next t) : s.Hands t := by
  have hs := State.Hands.refl s
  cases c <;> simp only [handsOnly, Bool.false_eq_true] at hc
  case firstSweepReading => exact hands_execFirstSweepReading h
  case probeSample => exact hands_execProbeSample h
  case doorOpened => exact hands_execDoorOpened h
  case doorClosed => exact hands_execDoorClosed h
  case ajar => exact hands_execAjar h
  case openWaitExpired => exact hands_execOpenWaitExpired h
  case secondTick => exact hands_execSecondTick h
  case minuteTick => exact hands_execMinuteTick h
  case shareTick => exact hands_execShareTick h
  case offer src order cls collectBy digits => exact hands_execOffer (src := src) h
  case claim src order score locker loaded => exact hands_execClaim (src := src) (locker := locker) h
  case windowEnd => exact hands_execWindowEnd h
  case enterKey => exact hands_execEnterKey h
  all_goals obtain rfl := Host.Outcome.next.inj h
  case trayAppeared i | trayRemoved i => exact hs.trayChange i _
  case resign | notice | reply => exact hs
  case flashPhase | lampFrame | lampTestEnd | bid | shed | keyReject | keysReleased | strikeAgedOut | lockoutEnd
      | beeperPatternEnd => exact hs.beside rfl rfl
  case grantRound => split <;> exact hs.beside rfl rfl
  case lineFaultCleared => exact s.hands_withLine
  case lineActive =>
    split
    · exact hs
    · exact s.hands_withLine
  case lineSettled | inStep =>
    split
    · exact s.hands_withLine
    · exact hs
  case frameDiscarded =>
    split
    · exact s.hands_withLine
    · exact hs
    · exact hs
  case attemptStart =>
    split
    · exact hs
    · split
      · exact s.hands_withLine
      · exact hs
  case demand =>
    split
    · exact hs
    · split
      · exact hs
      · exact hs.beside rfl rfl
  case time =>
    split
    · exact hs.beside
    · exact hs
  case pulseEnded =>
    split
    · exact hs
    · exact hs.beside
  case feederTripAsserted | supplyLowAsserted =>
    split
    · exact hs
    · exact hs.beside rfl rfl
  case feederTripCleared | supplyLowCleared =>
    split
    · exact hs.beside
    · exact hs
  case digitKey | clearKey =>
    split
    · dsimp only
      split
      · exact hs.beside rfl rfl
      · exact hs.beside rfl rfl
    · exact hs
  case entryTimeout =>
    split
    · exact hs.withKeypad _
    · exact hs

end Sys2Proof.Machine
end

section
/-! PROOFS. The rows of the CIP and of the transmitter keep the capacities of the lists (O12). -/

namespace Sys2Proof.Machine

/-! ### Resets, reports and replies (R130, R139, R145, R158) -/

/-- R28, R133, R145: a warm restart leaves the reply list, the order list and the inbox empty, and its notices within
their capacity. -/
theorem State.listLaw_warmRestart (s : State) : s.warmRestart.ListLaw := by
  obtain ⟨notices, hline, hlen⟩ := s.warmRestart_line_restarted
  have hcip : s.warmRestart.cip = Cip.init := by simp
  rw [State.listLaw_iff, hline, hcip]
  exact ⟨Nat.zero_le _, ⟨Nat.zero_le _, List.nodup_nil, by simp [Line.restarted], hlen⟩, Nat.zero_le _⟩

theorem State.listLaw_reportAll {s : State} (h : s.ListLaw) (fs : List ReplyFrame) :
    (fs.foldl State.reportReply s).ListLaw := by
  rcases s.reportAll_cases fs with hr | hr <;> rw [hr]
  · exact h
  · exact s.listLaw_warmRestart

/-- R130, R159: a reply joins where the place that is owed to a store write stays free. -/
theorem State.listLaw_handReply {s : State} (h : s.ListLaw) (f : ReplyFrame)
    (hroom : s.line.replies.length < Config.replyCapacity →
      s.line.replies.length + s.cip.proc.owed < Config.replyCapacity) : (s.handReply f).ListLaw := by
  rcases s.handReply_cases f with ⟨-, hlen, hr⟩ | ⟨-, hr⟩ <;> rw [hr]
  · rw [State.listLaw_iff] at h ⊢
    obtain ⟨-, hfit, hinbox⟩ := h
    refine ⟨?_, hfit, hinbox⟩
    have := hroom hlen
    simp
    omega
  · exact State.listLaw_reportAll h [f]

/-- R150: with no store write in progress there is room for the answer wherever the list has room. -/
theorem State.listLaw_answer {s : State} (h : s.ListLaw) (howed : s.cip.proc.owed = 0) (c : CommandFrame) (a : Answer) :
    (s.answer c a).ListLaw := by
  unfold State.answer
  split
  · exact h
  · exact State.listLaw_handReply h _ fun hlen => by rwa [howed]

/-- R148: an immediate answer leaves the owed place free. -/
theorem State.listLaw_answerNow {s : State} (h : s.ListLaw) (c : CommandFrame) (f : ReplyFrame) :
    (s.answerNow c f).ListLaw := by
  unfold State.answerNow
  split
  next hroom => exact State.listLaw_handReply h f fun _ => by omega
  · exact h

/-! ### The inbox and the processor (R146 to R150, R158, R159) -/

/-- R146, R149: a change of the CIP that lengthens neither the inbox nor what is owed. -/
theorem State.listLaw_withCip {s : State} (h : s.ListLaw) {x : Cip}
    (howed : x.proc.owed ≤ s.cip.proc.owed := by exact le_rfl)
    (hinbox : s.cip.inbox.length ≤ Config.inboxCapacity → x.inbox.length ≤ Config.inboxCapacity := by exact id) :
    (s.withCip x).ListLaw := by
  rw [State.listLaw_iff] at h ⊢
  obtain ⟨hreplies, hfit, hlen⟩ := h
  exact ⟨by simp; omega, hfit, hinbox hlen⟩

/-- R146, R147: supersession shortens the inbox, and a command joins it where it has room. -/
theorem listLaw_execCommand {s t : State} {src dest verb : Nat} {ops : List Nat}
    (h : execCommand src dest verb ops s = .next t) (hs : s.ListLaw) : t.ListLaw := by
  obtain rfl := Host.Outcome.next.inj h
  have hanswered : ∀ (gone : List CommandFrame) (u : State), u.ListLaw →
      (gone.foldl (fun u c => u.answerNow c (u.supersededReply c)) u).ListLaw := by
    intro gone
    induction gone with
    | nil => exact fun _ hu => hu
    | cons c gone ih => exact fun u hu => ih _ (State.listLaw_answerNow hu c _)
  split
  · exact hs
  · have hkept : ∀ keep, (s.withCip { s.cip with inbox := s.cip.inbox.filter keep }).ListLaw := fun keep =>
      State.listLaw_withCip hs (hinbox := fun hlen => (List.length_filter_le keep _).trans hlen)
    dsimp only
    split
    next hroom => exact State.listLaw_withCip (hanswered _ _ (hkept _)) (hinbox := fun _ => by simpa using hroom)
    · exact State.listLaw_answerNow (hanswered _ _ (hkept _)) _ _

/-- R149: the oldest command leaves the inbox. -/
theorem State.listLaw_taken {s : State} (h : s.ListLaw) {c : CommandFrame} {rest : List CommandFrame}
    (hinbox : s.cip.inbox = c :: rest) : (s.withCip { s.cip with inbox := rest }).ListLaw :=
  State.listLaw_withCip h (hinbox := fun hlen => by rw [hinbox] at hlen; exact Nat.le_of_succ_le hlen)

/-- R149, R150: a verb whose rule keeps the law of a FREE processor, and starts no store write. -/
theorem State.listLaw_takeVerb {s : State} (h : s.ListLaw) (isVerb : CommandFrame → Bool)
    {rule : CommandFrame → State → State × Answer} (hr : ∀ c (u : State), u.cip.proc = .free → u.ListLaw →
      (rule c u).1.ListLaw ∧ (rule c u).1.cip.proc.owed = 0) : (s.takeVerb isVerb rule).ListLaw := by
  rcases s.takeVerb_cases isVerb rule with hv | ⟨c, rest, hinbox, hfree, -, hv⟩ <;> rw [hv]
  · exact h
  · obtain ⟨hlaw, howed⟩ := hr c (s.withCip { s.cip with inbox := rest }) hfree (State.listLaw_taken h hinbox)
    exact State.listLaw_answer hlaw howed c _

/-- R150: a verb whose rule hands notices and order frames alone. -/
theorem State.listLaw_handsVerb {s : State} (h : s.ListLaw) (isVerb : CommandFrame → Bool)
    {rule : CommandFrame → State → State × Answer} (hr : ∀ c (u : State), u.Hands (rule c u).1) :
    (s.takeVerb isVerb rule).ListLaw :=
  State.listLaw_takeVerb h isVerb fun c u hfree hu =>
    ⟨(hr c u).listLaw hu, by rw [(hr c u).cip, hfree]; rfl⟩

theorem hands_inService {rule : CommandFrame → State → State × Answer} (hr : ∀ c (u : State), u.Hands (rule c u).1)
    (c : CommandFrame) (u : State) : u.Hands (inService rule c u).1 := by
  unfold inService
  split
  · exact .refl u
  · exact hr c u

theorem hands_loadRule (c : CommandFrame) (u : State) : u.Hands (loadRule c u).1 := by
  unfold loadRule
  split
  · exact .refl u
  · split
    · exact .refl u
    · split
      · exact (State.Hands.refl u).beside
      · exact .refl u
      · exact .refl u

theorem hands_voidRule (c : CommandFrame) (u : State) : u.Hands (voidRule c u).1 := by
  have hu := State.Hands.refl u
  unfold voidRule
  split
  · split
    · exact hu.withBook _
    · exact hu
  · split
    · exact hu
    · split
      · exact ((hu.notify ..).vacate _).recompute _
      · exact hu.modLocker ..
      · exact (hu.retire ..).recompute _
      all_goals exact hu

/-- R153, R154: CLEAR, BLOCK and UNBLOCK change one record. -/
theorem hands_lockerRule {rule : Nat → Locker → State → State × Answer} (hr : ∀ i r (u : State), u.Hands (rule i r u).1)
    (c : CommandFrame) (u : State) : u.Hands (lockerRule rule c u).1 := by
  unfold lockerRule
  split
  · exact .refl u
  · split
    · exact hr ..
    · exact .refl u

theorem hands_clearRule (i : Nat) (r : Locker) (u : State) : u.Hands (clearRule i r u).1 := by
  unfold clearRule
  split
  · dsimp only
    split
    · exact (State.Hands.refl u).beginCycle i
    · exact .refl u
  · exact .refl u

theorem hands_blockRule (i : Nat) (r : Locker) (u : State) : u.Hands (blockRule i r u).1 := by
  unfold blockRule
  split
  · exact (State.Hands.refl u).beside
  · exact .refl u

theorem hands_unblockRule (i : Nat) (r : Locker) (u : State) : u.Hands (unblockRule i r u).1 := by
  unfold unblockRule
  split
  · exact (State.Hands.refl u).beside
  · exact .refl u

theorem hands_queryRule (c : CommandFrame) (u : State) : u.Hands (queryRule c u).1 := by
  unfold queryRule
  split <;> exact .refl u

theorem hands_lampTestRule (c : CommandFrame) (u : State) : u.Hands (lampTestRule c u).1 := by
  unfold lampTestRule
  split
  · exact (State.Hands.refl u).beside
  · exact .refl u

/-- R158: a RESTARTING processor owes no reply to a store write. -/
theorem listLaw_execRestart {s t : State} (h : execRestart s = .next t) (hs : s.ListLaw) : t.ListLaw := by
  obtain rfl := Host.Outcome.next.inj h
  refine State.listLaw_takeVerb hs _ fun c u _ hu => ?_
  dsimp only
  split
  · exact ⟨State.listLaw_warmRestart _, by simp [Cip.init, Proc.owed]⟩
  · exact ⟨State.listLaw_withCip hu (howed := Nat.zero_le _), rfl⟩

/-- R149, R159: a CLASS is taken while the reply list has room, so that a store write finds the place that it owes. -/
theorem State.listLaw_takeClass {s : State} (h : s.ListLaw) : s.takeClass.ListLaw := by
  unfold State.takeClass
  split
  · exact h
  next c rest hinbox =>
    split
    next htake =>
      simp only [State.canTake, Bool.and_eq_true, beq_iff_eq, decide_eq_true_eq] at htake
      obtain ⟨⟨hfree, hroom⟩, -⟩ := htake
      have htaken := State.listLaw_taken h hinbox
      have howed : (s.withCip { s.cip with inbox := rest }).cip.proc.owed = 0 := by
        rw [State.withCip_cip, hfree]
        rfl
      dsimp only
      split
      · exact State.listLaw_answer htaken howed ..
      · split
        · obtain ⟨-, hfit, hlen⟩ := (State.listLaw_iff _).mp htaken
          refine (State.listLaw_iff _).mpr ⟨?_, hfit, hlen⟩
          simp only [State.withCip_line, State.withCip_cip, Proc.owed]
          split <;> omega
        · exact State.listLaw_answer htaken howed ..
    · exact h

/-- R159: the reply of a store write takes the place that it owes. -/
theorem listLaw_execClassWriteEnd {s t : State} (h : execClassWriteEnd s = .next t) (hs : s.ListLaw) : t.ListLaw := by
  obtain rfl := Host.Outcome.next.inj h
  split
  next w _ =>
    have hwritten : (s.withTime (s.time.writeClass w)).ListLaw := hs
    have hfreed := State.listLaw_withCip hwritten (x := { s.cip with proc := .free }) (howed := Nat.zero_le _)
    dsimp only
    split
    · exact hfreed
    · exact State.listLaw_handReply hfreed _ id
  · exact hs
  · exact hs

/-! ### The transmitter and the falls (R129, R135 to R138, R142) -/

/-- A change of the line that lengthens no reply list. -/
theorem State.listLaw_withLine {s : State} (h : s.ListLaw) {l : Line}
    (hreplies : l.replies.length ≤ s.line.replies.length) (hfit : s.line.ListsFit → l.ListsFit) :
    (s.withLine l).ListLaw := by
  rw [State.listLaw_iff] at h ⊢
  obtain ⟨hlen, hf, hinbox⟩ := h
  exact ⟨by simp; omega, hfit hf, hinbox⟩

/-- R131, R133, R138: a list that has lost a frame, or taken the pending replacement in its place, keeps the law. -/
theorem Line.ListsFit.shorter {l m : Line} (h : l.ListsFit)
    (horders : (m.orders.map fun q => q.frame.order).Sublist (l.orders.map fun q => q.frame.order))
    (hnext : m.orderNext = none) (hnotices : m.notices.length ≤ l.notices.length) : m.ListsFit := by
  obtain ⟨hlen, hone, -, hcap⟩ := h
  have hshort : m.orders.length ≤ l.orders.length := by simpa using horders.length_le
  exact ⟨hshort.trans hlen, hone.sublist horders, by simp [hnext], hnotices.trans hcap⟩

/-- R138: a pending replacement bears the order number of the head whose place it takes. -/
theorem Line.ListsFit.replacement {l : Line} (h : l.ListsFit) {f : OrderFrame} (hf : l.orderNext = some f) :
    ((⟨f, 0⟩ : Queued OrderFrame) :: l.orders.drop 1).map (fun q => q.frame.order) =
      l.orders.map fun q => q.frame.order := by
  obtain ⟨-, -, hnext, -⟩ := h
  obtain ⟨q, hq, hqf⟩ := Option.map_eq_some_iff.mp (hnext f hf)
  cases ho : l.orders with
  | nil => simp [ho] at hq
  | cons x rest =>
    obtain rfl : x = q := by simpa [ho] using hq
    simp [hqf]

theorem Line.ListsFit.ordersAfterHead {l : Line} (h : l.ListsFit) :
    (l.ordersAfterHead.map fun q => q.frame.order).Sublist (l.orders.map fun q => q.frame.order) := by
  unfold Line.ordersAfterHead
  split
  next f hf => rw [h.replacement hf]
  · exact (List.drop_sublist 1 _).map _

theorem Line.ListsFit.ordersAfterCollision {l : Line} (h : l.ListsFit) :
    (l.ordersAfterCollision.map fun q => q.frame.order).Sublist (l.orders.map fun q => q.frame.order) := by
  unfold Line.ordersAfterCollision
  split
  next f hf => rw [h.replacement hf]
  · simpa [Function.comp_def] using (retryHead_frames l.orders).map OrderFrame.order

/-- R135: a frame that is sent leaves its list. -/
theorem Line.ListsFit.sent {l : Line} (h : l.ListsFit) (k : ListKind) : (l.sent k).settle.ListsFit := by
  cases k
  case reply | demand => exact h
  case order => exact h.shorter h.ordersAfterHead rfl le_rfl
  case notice =>
    obtain ⟨hlen, hone, hnext, hnotices⟩ := h
    exact ⟨hlen, hone, hnext, (List.drop_sublist 1 _).length_le.trans hnotices⟩

theorem listLaw_execTransmissionComplete {s t : State} (h : execTransmissionComplete s = .next t) (hs : s.ListLaw) :
    t.ListLaw := by
  cases hw : s.line.wire with
  | none =>
    rw [execTransmissionComplete, hw] at h
    obtain rfl := Host.Outcome.next.inj h
    dsimp only
    split
    · rw [State.demandCompleted_eq]
      exact hs
    · exact hs
  | some a =>
    rw [execTransmissionComplete_wire hw] at h
    obtain rfl := Host.Outcome.next.inj h
    have hsent : ∀ k, (s.frameSent k).ListLaw := by
      intro k
      refine State.listLaw_withLine hs ?_ fun hfit => hfit.sent k
      cases k
      case reply => exact (List.drop_sublist 1 _).length_le
      all_goals exact le_rfl
    cases a.list
    case reply =>
      unfold State.sentReported
      cases s.line.replies.head? with
      | none => exact hsent .reply
      | some q => exact State.listLaw_reportAll (hsent .reply) [q.frame]
    case demand =>
      rw [State.sentReported, State.demandCompleted_eq]
      exact hsent .demand
    case order => exact hsent .order
    case notice => exact hsent .notice

/-- R136 to R138: a collision retries or drops the head of a list, or puts the pending replacement in its place. -/
theorem Line.ListsFit.retried {l : Line} (h : l.ListsFit) (k : ListKind) (settles : Bool) :
    (l.retried k settles).ListsFit := by
  cases k
  case order => exact h.shorter (by simpa using h.ordersAfterCollision) (by simp) (by simp)
  all_goals
    obtain ⟨hlen, hone, hnext, hnotices⟩ := h
    simp only [Line.ListsFit, Line.retried_fields, reduceCtorEq, if_false, if_true]
  case notice => exact ⟨hlen, hone, hnext, (retryHead_length _).trans hnotices⟩
  all_goals exact ⟨hlen, hone, hnext, hnotices⟩

theorem listLaw_execCollision {s t : State} (h : execCollision s = .next t) (hs : s.ListLaw) : t.ListLaw := by
  cases hw : s.line.wire with
  | none =>
    rw [execCollision, hw] at h
    obtain rfl := Host.Outcome.next.inj h
    exact hs
  | some a =>
    rw [execCollision_wire hw] at h
    obtain rfl := Host.Outcome.next.inj h
    have hcollided : (s.frameCollided a).ListLaw := by
      refine State.listLaw_withLine hs ?_ fun hfit => hfit.retried ..
      have hreplies : (s.line.retried a.list a.settles).replies =
          if a.list = .reply then retryHead s.line.replies else s.line.replies := by simp
      rw [hreplies]
      split
      · exact retryHead_length _
      · exact le_rfl
    rcases s.collisionReported_cases a with hr | ⟨q, rest, -, -, -, hr⟩ <;> rw [hr]
    · exact hcollided
    · exact State.listLaw_reportAll hcollided [q.frame]

/-- R129: a fall out of step empties the reply and order lists. -/
theorem State.listLaw_fallOutOfStep {s : State} (h : s.ListLaw) : s.fallOutOfStep.ListLaw := by
  have hfallen : (s.withLine s.line.fallen).ListLaw := by
    rcases s.line.fallen_cases with ⟨-, hf⟩ | ⟨k, -, hf⟩ <;> rw [hf]
    · exact State.listLaw_withLine h (Nat.zero_le _) fun hfit => hfit.shorter (List.nil_sublist _) rfl le_rfl
    · refine State.listLaw_withLine h (Nat.zero_le _) fun hfit => hfit.shorter (List.nil_sublist _) rfl ?_
      dsimp only
      split
      · exact (List.drop_sublist 1 _).length_le
      · exact le_rfl
  exact State.listLaw_reportAll ((State.Hands.refl _).isolate.listLaw hfallen) _

theorem listLaw_execJabber {s t : State} (h : execJabber s = .next t) (hs : s.ListLaw) : t.ListLaw := by
  obtain rfl := Host.Outcome.next.inj h
  split
  · have hcount : (s.withLine { s.line with activityCount := Config.jabberLimit }).ListLaw := hs
    dsimp only
    split
    · exact State.listLaw_fallOutOfStep hcount
    · exact hcount
  · exact hs

theorem listLaw_execLossOfStep {s t : State} (h : execLossOfStep s = .next t) (hs : s.ListLaw) : t.ListLaw := by
  obtain rfl := Host.Outcome.next.inj h
  have hfault : (s.withLine { s.line with lineFault := true }).ListLaw := hs
  split
  · exact State.listLaw_fallOutOfStep hfault
  · exact hfault

/-- R142, R160: a clash empties the reply list, the order list and the inbox. -/
theorem listLaw_execAddressClash {s t : State} (h : execAddressClash s = .next t) (hs : s.ListLaw) : t.ListLaw := by
  obtain rfl := Host.Outcome.next.inj h
  split
  · exact hs
  · have hline : (s.withLine s.line.clashed).ListLaw :=
      State.listLaw_withLine hs (Nat.zero_le _) fun hfit => hfit.shorter (List.nil_sublist _) rfl le_rfl
    have hcip := State.listLaw_withCip hline (x := { s.cip with inbox := [] }) (hinbox := fun _ => Nat.zero_le _)
    exact State.listLaw_reportAll ((State.Hands.refl _).isolate.listLaw hcip) _

/-! ### All rows, and the clockwork -/

theorem listLaw_exec {c : Instr} {s t : State} (h : exec c s = .next t) (hs : s.ListLaw) : t.ListLaw := by
  by_cases hc : handsOnly c = true
  · exact (hands_exec hc h).listLaw hs
  cases c <;> simp only [handsOnly, not_true_eq_false] at hc
  case command => exact listLaw_execCommand h hs
  case restart => exact listLaw_execRestart h hs
  case classWriteEnd => exact listLaw_execClassWriteEnd h hs
  case transmissionComplete => exact listLaw_execTransmissionComplete h hs
  case collision => exact listLaw_execCollision h hs
  case jabber => exact listLaw_execJabber h hs
  case lossOfStep => exact listLaw_execLossOfStep h hs
  case addressClash => exact listLaw_execAddressClash h hs
  all_goals obtain rfl := Host.Outcome.next.inj h
  case powerOnReset p => simp [State.ListLaw, State.powerOn, State.reset, Line.init, Cip.init, Proc.owed]
  case warmRestart => exact s.listLaw_warmRestart
  case load => exact State.listLaw_handsVerb hs _ (hands_inService hands_loadRule)
  case void => exact State.listLaw_handsVerb hs _ (hands_inService hands_voidRule)
  case clear => exact State.listLaw_handsVerb hs _ (hands_inService (hands_lockerRule hands_clearRule))
  case block => exact State.listLaw_handsVerb hs _ (hands_inService (hands_lockerRule hands_blockRule))
  case unblock => exact State.listLaw_handsVerb hs _ (hands_inService (hands_lockerRule hands_unblockRule))
  case query => exact State.listLaw_handsVerb hs _ hands_queryRule
  case lampTest => exact State.listLaw_handsVerb hs _ hands_lampTestRule
  case queryBank | unknownVerb => exact State.listLaw_handsVerb hs _ fun _ u => .refl u
  case classWrite => exact State.listLaw_takeClass hs

/-- R123, R159: a symbol time moves no frame into a list or out of one, and a store write goes on owing its reply. -/
theorem State.listLaw_idle {s : State} (h : s.ListLaw) : s.idle.ListLaw := by
  unfold State.idle
  split
  · have howed : s.cip.proc.tick.owed = s.cip.proc.owed := by cases s.cip.proc <;> rfl
    have hline := Line.symbolTime_line s.line s.own s.readSymbol
    rw [State.listLaw_iff] at h ⊢
    change (s.line.symbolTime s.own s.readSymbol).1.replies.length + s.cip.proc.tick.owed ≤ _ ∧
      (s.line.symbolTime s.own s.readSymbol).1.ListsFit ∧ _
    rw [hline, howed]
    exact h
  · exact h

/-- Settles O12: the rows hand frames within the capacities, the transmitter takes frames from the lists, and an answer
leaves the place that a store write owes. -/
theorem listLawKept : Obligations.ListLawKept :=
  keptByStep_of_exec (fun _ => State.listLaw_idle) (fun _ _ _ hs h => listLaw_exec h hs) fun _ _ hs => hs

end Sys2Proof.Machine
end

section
/-! PROOFS. Frames on the line: the envelope read back (O18), the bodies (O19), and the tests and filters (O20). -/

namespace Sys2Proof.Machine

/-! ### Bytes as data symbols (R120, R123) -/

/-- R120: the data values of bytes, high nibble first. -/
def nibblesOf (bytes : List Nat) : List Nibble := bytes.flatMap fun n => [BitVec.ofNat 4 (n / 16), BitVec.ofNat 4 n]

theorem flatMap_byteSyms (bytes : List Nat) : bytes.flatMap byteSyms = (nibblesOf bytes).map Sym.data := by
  rw [nibblesOf, List.map_flatMap]
  rfl

theorem nibblesOf_length (bytes : List Nat) : (nibblesOf bytes).length = 2 * bytes.length := by
  simp [nibblesOf, Nat.mul_comm]

/-- R120: two data symbols give back the byte that they carry. -/
theorem bytesOf_nibblesOf {bytes : List Nat} (h : ∀ n ∈ bytes, n < 256) : bytesOf (nibblesOf bytes) = bytes := by
  induction bytes with
  | nil => rfl
  | cons n bytes ih =>
    obtain ⟨hn, hrest⟩ := List.forall_mem_cons.mp h
    have hcons : bytesOf (nibblesOf (n :: bytes)) =
        ((BitVec.ofNat 4 (n / 16)).toNat * 16 + (BitVec.ofNat 4 n).toNat) :: bytesOf (nibblesOf bytes) := rfl
    rw [hcons, ih hrest, BitVec.toNat_ofNat, BitVec.toNat_ofNat]
    congr 1
    omega

theorem bytesOf_length (nibbles : List Nibble) : (bytesOf nibbles).length = nibbles.length / 2 := by
  induction nibbles using bytesOf.induct with
  | case1 h l rest ih =>
    simp only [bytesOf, List.length_cons, ih]
    omega
  | case2 nibbles hshort =>
    rcases nibbles with - | ⟨x, - | ⟨y, rest⟩⟩
    · rfl
    · simp [bytesOf]
    · exact (hshort x y rest rfl).elim

/-! ### The tests of a complete frame (R122, R123, R125) -/

/-- R122: the check bytes are two, and bytes. -/
theorem checkBytes_lt (bytes : List Nat) : ∀ n ∈ checkBytes bytes, n < 256 := by
  have := (checkOf bytes).isLt
  intro n hn
  simp only [checkBytes, List.mem_cons, List.not_mem_nil, or_false] at hn
  omega

/-- R123: the tests of a frame of at least five bytes: a known kind with its body length, and a good check. -/
theorem checkedBytes_nibblesOf {kind src dest c₁ c₂ : Nat} {body : List Nat}
    (h : ∀ n ∈ kind :: src :: dest :: body ++ [c₁, c₂], n < 256) :
    checkedBytes (nibblesOf (kind :: src :: dest :: body ++ [c₁, c₂])) =
      if bodyLength kind = some body.length ∧ [c₁, c₂] = checkBytes (kind :: src :: dest :: body) then
        some (kind :: src :: dest :: body) else none := by
  have hlen : (kind :: src :: dest :: body ++ [c₁, c₂]).length - 2 = (kind :: src :: dest :: body).length := by simp
  rw [checkedBytes, bytesOf_nibblesOf h, hlen, List.take_left, List.drop_left, nibblesOf_length]
  simp

/-- R123: a frame that passes the tests has a known kind with its body length. -/
theorem bodyLength_of_checkedBytes {nibbles : List Nibble} {front : List Nat} (h : checkedBytes nibbles = some front) :
    bodyLength (front.getD 0 0) = some (front.length - 3) := by
  simp only [checkedBytes] at h
  split at h
  next htests => obtain rfl := Option.some.inj h; exact htests.2.2.1
  · cases h

theorem checkedBytes_eq_none {nibbles : List Nibble} (h : nibbles.length % 2 = 1 ∨ nibbles.length < 10) :
    checkedBytes nibbles = none := by
  refine if_neg fun ⟨heven, hfive, _⟩ => ?_
  rw [bytesOf_length] at hfive
  omega

theorem bodyLength_le {kind n : Nat} (h : bodyLength kind = some n) : n ≤ 12 := by
  unfold bodyLength at h
  split at h <;> simp at h <;> omega

/-! ### The receiver (R121, R123) -/

/-- R123: data symbols join the frame while it is no longer than the longest kind. -/
theorem receiveAll_data (echo : Bool) (tail : List Sym) (values : List Nibble) : ∀ nibbles : List Nibble,
    (nibbles ++ values).length ≤ nibbleLimit → receiveAll (.frame nibbles false echo) (values.map Sym.data ++ tail) =
      receiveAll (.frame (nibbles ++ values) false echo) tail := by
  induction values with
  | nil => intro nibbles _; simp
  | cons v values ih =>
    intro nibbles hlen
    have hroom : nibbles.length < nibbleLimit := by simp at hlen; omega
    have hstep : rxStep (.frame nibbles false echo) (.data v) false = (.frame (nibbles ++ [v]) false echo, .none) := by
      simp [rxStep, hroom]
    rw [List.map_cons, List.cons_append, receiveAll, hstep, ih _ (by simpa using hlen)]
    simp

/-- R121, R123: the symbols of a frame that is not too long are taken as one complete frame. -/
theorem receiveAll_frameSymbols {bytes : List Nat} (h : bytes.length ≤ 15) :
    receiveAll .hunting (frameSymbols bytes) = [.complete (nibblesOf (bytes ++ checkBytes bytes)) false] := by
  have hlen : ([] ++ nibblesOf (bytes ++ checkBytes bytes)).length ≤ nibbleLimit := by
    simp [nibblesOf_length, checkBytes, nibbleLimit]
    omega
  have hopen : receiveAll .hunting (frameSymbols bytes) = receiveAll (.frame [] false false)
      ((nibblesOf (bytes ++ checkBytes bytes)).map Sym.data ++ [.shut1, .shut2]) := by
    rw [frameSymbols, flatMap_byteSyms]
    rfl
  rw [hopen, receiveAll_data _ _ _ _ hlen, List.nil_append]
  rfl

/-- Settles O18: the data symbols are collected between OPEN and SHUT, and the tests find the check that was sent. -/
theorem receiverReadsBackFrame : Obligations.ReceiverReadsBackFrame := by
  intro kind src dest body hkind hsrc hdest hbody hlen
  have hfront : ∀ n ∈ kind :: src :: dest :: body, n < 256 := by simpa [hkind, hsrc, hdest] using hbody
  have hlong := bodyLength_le hlen
  refine ⟨?_, _, receiveAll_frameSymbols (by simp; omega), ?_⟩
  · rw [frameSymbols, flatMap_byteSyms]
    simp [nibblesOf_length, checkBytes]
    omega
  · have hbytes := checkBytes_lt (kind :: src :: dest :: body)
    rw [checkBytes, checkedBytes_nibblesOf (List.forall_mem_append.mpr ⟨hfront, hbytes⟩), if_pos ⟨hlen, rfl⟩]

/-! ### The filters (R124) -/

theorem judgeFrame_of_failed {nibbles : List Nibble} (h : checkedBytes nibbles = none) (own : Nat) (echo : Bool) :
    judgeFrame own nibbles echo = .discarded := by
  rw [judgeFrame, h]

/-- R125: the known kinds and their body lengths, as a table. -/
theorem bodyLength_eq_some_iff (kind n : Nat) : bodyLength kind = some n ↔
    (kind, n) ∈ [(1, 11), (2, 7), (3, 6), (4, 7), (5, 4), (6, 7), (7, 10), (8, 12), (9, 3), (10, 1)] := by
  by_cases hkind : kind < 11
  · interval_cases kind <;> simp [bodyLength, eq_comm]
  · obtain ⟨m, rfl⟩ := Nat.exists_eq_add_of_le' (Nat.not_lt.mp hkind)
    have hunknown : bodyLength (m + 11) = none := rfl
    simp [hunknown]

/-- R125, R140: every known kind is delivered as a command. -/
theorem deliveryOf_of_bodyLength {kind n : Nat} (h : bodyLength kind = some n) (src dest : Nat) (body : List Nat) :
    ∃ c, deliveryOf kind src dest body = some c := by
  unfold bodyLength at h
  split at h
  case h_11 => cases h
  all_goals exact ⟨_, rfl⟩

/-- R122: the two check bytes as one number. -/
theorem eq_checkBytes_iff {c₁ c₂ : Nat} (h : c₂ < 256) (bytes : List Nat) :
    [c₁, c₂] = checkBytes bytes ↔ c₁ * 256 + c₂ = (checkOf bytes).toNat := by
  simp only [checkBytes, List.cons.injEq, and_true]
  omega

/-- R124: the filters of a frame that passes the tests. -/
theorem judgeFrame_of_checked {nibbles : List Nibble} {kind src dest : Nat} {body : List Nat}
    (h : checkedBytes nibbles = some (kind :: src :: dest :: body)) (own : Nat) (echo : Bool) :
    judgeFrame own nibbles echo =
      if echo then .ownEcho
      else if 30 < src then .discarded
      else if src = own then .clash
      else if dest ≠ own ∧ dest ≠ 31 then .discarded
      else (deliveryOf kind src dest body).elim .discarded .delivered := by
  rw [judgeFrame, h]
  simp only [List.getD_cons_succ, List.getD_cons_zero, List.drop_succ_cons, List.drop_zero]
  cases deliveryOf kind src dest body <;> rfl

/-- R123: what a symbol makes of a frame inside the receiver, before and after its SHUT-1. -/
theorem rxStep_frame (nibbles : List Nibble) (echo onWire : Bool) (sym : Sym) :
    (∀ v, sym = .data v → rxStep (.frame nibbles false echo) sym onWire =
      if nibbles.length < 34 then (.frame (nibbles ++ [v]) false echo, .none) else (.hunting, .discarded)) ∧
    ((∀ v, sym ≠ .data v) → sym ≠ .shut1 → rxStep (.frame nibbles false echo) sym onWire =
      (if sym = .open1 then .opened onWire else .hunting, .discarded)) ∧
    (sym ≠ .shut2 → rxStep (.frame nibbles true echo) sym onWire =
      (if sym = .open1 then .opened onWire else .hunting, .discarded)) := by
  refine ⟨fun v hv => by rw [hv]; rfl, fun hdata hshut => ?_, fun hshut => ?_⟩
  · cases sym
    case data v => exact absurd rfl (hdata v)
    case shut1 => exact absurd rfl hshut
    all_goals rfl
  · cases sym
    case shut2 => exact absurd rfl hshut
    all_goals rfl

/-- Settles O20: a failed test discards, and the filters are taken in their order. -/
theorem filtersJudgeFrames : Obligations.FiltersJudgeFrames := by
  refine ⟨fun own nibbles echo h => judgeFrame_of_failed (checkedBytes_eq_none h) own echo,
    fun own nibbles echo kind src dest c₁ c₂ body hbytes hnibbles hbad => judgeFrame_of_failed ?_ own echo,
    rxStep_frame, fun own nibbles echo kind src dest body hchecked => ?_⟩
  · have hc₂ : c₂ < 256 := hbytes c₂ (by simp)
    rw [hnibbles]
    refine (checkedBytes_nibblesOf hbytes).trans (if_neg fun ⟨hlen, hcheck⟩ => ?_)
    rcases hbad with hbad | hbad
    · exact hbad ((bodyLength_eq_some_iff ..).mp hlen)
    · exact hbad ((eq_checkBytes_iff hc₂ _).mp hcheck)
  · have hkind : bodyLength kind = some _ := bodyLength_of_checkedBytes hchecked
    obtain ⟨c, hc⟩ := deliveryOf_of_bodyLength hkind src dest body
    rw [judgeFrame_of_checked hchecked]
    refine ⟨fun h => ?_, fun he hs => ?_, fun he hs ho => ?_, fun he hs ho hd hall => ?_,
      fun he hs ho hd => ⟨c, hc, ?_⟩⟩
    · simp [h]
    · simp [he, hs]
    · simp [he, Nat.not_lt.mpr hs, if_pos ho]
    · simp [he, Nat.not_lt.mpr hs, ho, hd, hall]
    · have hdest : ¬ (dest ≠ own ∧ dest ≠ 31) := fun hn => hd.elim hn.1 hn.2
      simp only [he, Bool.false_eq_true, if_false, Nat.not_lt.mpr hs, ho, hdest]
      rw [hc]
      rfl

/-! ### Bodies (R125) -/

/-- R125: a number that fits in two bytes is read back from them. -/
theorem word16_bytes {n : Nat} (h : n < 65536) : n / 256 % 256 * 256 + n % 256 = n := by omega

/-- R125: a number that fits in three bytes is read back from them. -/
theorem word24_bytes {n : Nat} (h : n < 16777216) : n / 65536 % 256 * 65536 + n / 256 % 256 * 256 + n % 256 = n := by
  omega

/-- R125: a flag byte of one flag. -/
theorem testBit_flagBit (b : Bool) : (flagBit b 0).testBit 0 = b := by cases b <;> rfl

/-- R125: the three flags of a DEMAND. -/
theorem testBit_flagBits (a b c : Bool) : (flagBit a 0 + flagBit b 1 + flagBit c 2).testBit 0 = a ∧
    (flagBit a 0 + flagBit b 1 + flagBit c 2).testBit 1 = b ∧
    (flagBit a 0 + flagBit b 1 + flagBit c 2).testBit 2 = c := by
  revert a b c
  decide

theorem DemandFrame.out_readBack (f : DemandFrame) (src : Nat) (hseq : f.seq < 256) (hd : f.d < 65536)
    (hf : f.f < 65536) (hk : f.k < 65536) (hw : f.w < 256) (ha : f.a < 65536) :
    bodyLength f.out.kind = some f.out.body.length ∧ deliveryOf f.out.kind src 31 f.out.body =
      some (.demand src f.seq f.d f.f f.k f.w f.a f.trip f.isolated f.commission) := by
  obtain ⟨htrip, hisolated, hcommission⟩ := testBit_flagBits f.trip f.isolated f.commission
  refine ⟨rfl, ?_⟩
  simp only [DemandFrame.out, bytes16, deliveryOf, word16At, List.cons_append, List.nil_append, List.getD_cons_zero,
    List.getD_cons_succ, htrip, hisolated, hcommission, Nat.mod_eq_of_lt hseq, Nat.mod_eq_of_lt hw, word16_bytes hd,
    word16_bytes hf, word16_bytes hk, word16_bytes ha]

section
variable (src : Nat) {order score locker : Nat} (horder : order < 16777216) (hlocker : locker < 256)
include horder hlocker

theorem OrderFrame.bid_readBack (hscore : score < 65536) :
    deliveryOf 3 src 31 (bytes24 order ++ bytes16 score ++ [locker % 256]) = some (.bid src order score locker) := by
  simp only [bytes16, bytes24, deliveryOf, word16At, word24At, List.cons_append, List.nil_append, List.getD_cons_zero,
    List.getD_cons_succ, word24_bytes horder, word16_bytes hscore, Nat.mod_eq_of_lt hlocker]

theorem OrderFrame.claim_readBack (hscore : score < 65536) (loaded : Bool) :
    deliveryOf 4 src 31 (bytes24 order ++ bytes16 score ++ [locker % 256, flagBit loaded 0]) =
      some (.claim src order score locker loaded) := by
  simp only [bytes16, bytes24, deliveryOf, word16At, word24At, List.cons_append, List.nil_append, List.getD_cons_zero,
    List.getD_cons_succ, word24_bytes horder, word16_bytes hscore, Nat.mod_eq_of_lt hlocker, testBit_flagBit]

theorem OrderFrame.resign_readBack :
    deliveryOf 5 src 31 (bytes24 order ++ [locker % 256]) = some (.resign src order locker) := by
  simp only [bytes24, deliveryOf, word24At, List.cons_append, List.nil_append, List.getD_cons_zero,
    List.getD_cons_succ, word24_bytes horder, Nat.mod_eq_of_lt hlocker]

end

theorem NoticeFrame.out_readBack (f : NoticeFrame) (src : Nat) (hlocker : f.locker < 256)
    (horder : f.order < 16777216) :
    deliveryOf f.out.kind src 31 f.out.body =
      some (.notice src f.locker f.event.code f.reason.code f.order f.lapse) := by
  simp only [NoticeFrame.out, bytes24, deliveryOf, word24At, List.cons_append, List.nil_append, List.getD_cons_zero,
    List.getD_cons_succ, word24_bytes horder, Nat.mod_eq_of_lt hlocker, testBit_flagBit]

theorem ReplyFrame.out_readBack (f : ReplyFrame) (src : Nat) (hverb : f.verb < 256) (hlocker : f.locker < 256)
    (hstate : f.state < 256) (hdata : ∀ b ∈ f.data, b < 256) :
    deliveryOf f.out.kind src f.dest f.out.body =
      some (.reply src f.verb f.outcome.code f.reason.code f.locker f.state f.data) := by
  have hbytes : f.data.map (· % 256) = f.data :=
    (List.map_congr_left (g := id) fun b hb => Nat.mod_eq_of_lt (hdata b hb)).trans (List.map_id _)
  simp only [ReplyFrame.out, deliveryOf, hbytes, List.cons_append, List.nil_append, List.getD_cons_zero,
    List.getD_cons_succ, List.drop_succ_cons, List.drop_zero, Nat.mod_eq_of_lt hverb, Nat.mod_eq_of_lt hlocker,
    Nat.mod_eq_of_lt hstate]

/-- Settles O19: each body is read back byte by byte, and the codes are those of the tables. -/
theorem sentBodiesReadBack : Obligations.SentBodiesReadBack := by
  refine ⟨fun f src hseq hd hf hk hw ha => f.out_readBack src hseq hd hf hk hw ha,
    fun order score locker src loaded horder hscore hlocker =>
      ⟨⟨rfl, OrderFrame.bid_readBack src horder hlocker hscore⟩,
        ⟨rfl, OrderFrame.claim_readBack src horder hlocker hscore loaded⟩,
        ⟨rfl, OrderFrame.resign_readBack src horder hlocker⟩⟩,
    fun f src hlocker horder => ⟨rfl, f.out_readBack src hlocker horder⟩,
    fun f src hverb hlocker hstate hlen hdata => ⟨?_, f.out_readBack src hverb hlocker hstate hdata⟩,
    fun src dest b₀ b₁ b₂ b₃ b₄ b₅ b₆ ops => ⟨rfl, rfl, rfl, rfl⟩, ?_, ?_, ?_, ?_, ?_, ?_⟩
  · simp [ReplyFrame.out, bodyLength, hlen]
  all_goals decide

end Sys2Proof.Machine
end

section
/-! PROOFS. The transmit lists take frames (O38), the frame next in line goes on the wire (O47), and the line monitor
and the step lock (O50). -/

namespace Sys2Proof.Machine

/-! ### The lists (R129, R131 to R133, R138, R143) -/

theorem Line.sending_iff (l : Line) (k : ListKind) : l.sending k = true ↔ l.wire.map Attempt.list = some k := by
  unfold Line.sending
  cases l.wire <;> simp

/-- R129, R143: a station that is out of step or listen-only discards an order frame. -/
theorem Line.handOrder_mute {l : Line} (h : l.inStep = false ∨ l.listenOnly = true) (f : OrderFrame) :
    l.handOrder f = l := if_pos (l.mute_iff.mpr h)

section
variable {l : Line} (hmute : ¬ l.mute = true) {f : OrderFrame}
include hmute

/-- R131: a frame of a new order joins the tail while there is room. -/
theorem Line.handOrder_new (hnew : ∀ q ∈ l.orders, q.frame.order ≠ f.order) :
    l.handOrder f = if l.orders.length < 12 then { l with orders := l.orders ++ [⟨f, 0⟩] } else l := by
  have hnone : ¬ (l.orders.any fun q => q.frame.order == f.order) = true := by simpa using hnew
  rw [Line.handOrder, if_neg hmute, if_neg hnone]
  rfl

/-- R131, R138: a frame of a waiting order takes its place, or waits for the end of the attempt on the wire. -/
theorem Line.handOrder_known {front rest : List (Queued OrderFrame)} {q : Queued OrderFrame}
    (horders : l.orders = front ++ q :: rest) (hq : q.frame.order = f.order)
    (hother : ∀ x ∈ front ++ rest, x.frame.order ≠ f.order) :
    l.handOrder f = if front = [] ∧ l.wire.map Attempt.list = some .order then { l with orderNext := some f }
      else { l with orders := front ++ ⟨f, 0⟩ :: rest } := by
  have hknown : (l.orders.any fun q => q.frame.order == f.order) = true := by simp [horders, hq]
  have hhead : (l.orders.head?.map fun q => q.frame.order) = some f.order ↔ front = [] := by
    cases front with
    | nil => simp [horders, hq]
    | cons x front => simpa [horders] using hother x (by simp)
  have hkept : ∀ xs ⊆ front ++ rest,
      (xs.map fun x => if x.frame.order = f.order then (⟨f, 0⟩ : Queued OrderFrame) else x) = xs := fun xs hxs =>
    (List.map_congr_left (g := id) fun x hx => if_neg (hother x (hxs hx))).trans (List.map_id _)
  have hreplaced : (l.orders.map fun x => if x.frame.order = f.order then (⟨f, 0⟩ : Queued OrderFrame) else x) =
      front ++ ⟨f, 0⟩ :: rest := by
    rw [horders, List.map_append, List.map_cons, hkept front (by simp), hkept rest (by simp), if_pos hq]
  rw [Line.handOrder, if_neg hmute, if_pos hknown, hreplaced]
  simp only [Bool.and_eq_true, beq_iff_eq, l.sending_iff, hhead, and_comm (a := front = [])]

end

/-- R133: the oldest notice that is not on the wire. -/
theorem Line.noticesDropped_eq (l : Line) : l.noticesDropped =
    if l.wire.map Attempt.list = some .notice then l.notices.eraseIdx 1 else l.notices.eraseIdx 0 := by
  simp only [Line.noticesDropped, l.sending_iff, List.eraseIdx_eq_take_drop_succ, List.take_zero, List.nil_append]

/-- Settles O38: a frame is discarded, joins the tail, takes a place, or waits for the attempt on the wire. -/
theorem listsTakeFrames : Obligations.ListsTakeFrames := by
  refine ⟨fun l f h => Line.handOrder_mute h f, fun l f hstep hlisten => ?_, fun l f => ?_, fun l f => ?_⟩
  · have hmute : ¬ l.mute = true := by simp [Line.mute, hstep, hlisten]
    exact ⟨Line.handOrder_new hmute, fun front q rest => Line.handOrder_known hmute⟩
  · simp only [Line.refillDemand, l.sending_iff]
  · rw [Line.pushNotice, l.noticesDropped_eq]
    rfl

/-! ### The start of an attempt (R121, R134) -/

/-- R134: the first of reply, order, DEMAND and notice that waits is next in line. -/
theorem Line.nextInLine_eq {l : Line} {k : ListKind} {gap : Nat} {out : OutFrame}
    (h : (∃ q rest, l.replies = q :: rest ∧ k = .reply ∧ gap = 8 ∧ out = q.frame.out) ∨
      (l.replies = [] ∧ ∃ q rest, l.orders = q :: rest ∧ k = .order ∧ gap = 8 ∧ out = q.frame.out) ∨
      (l.replies = [] ∧ l.orders = [] ∧ ∃ q, l.demand = some q ∧ k = .demand ∧ gap = 16 ∧ out = q.frame.out) ∨
      (l.replies = [] ∧ l.orders = [] ∧ l.demand = none ∧ ∃ q rest, l.notices = q :: rest ∧ k = .notice ∧ gap = 24 ∧
        out = q.frame.out)) : l.nextInLine = some (k, gap, out) := by
  unfold Line.nextInLine
  rcases h with ⟨q, rest, hr, rfl, rfl, rfl⟩ | ⟨hr, q, rest, ho, rfl, rfl, rfl⟩ | ⟨hr, ho, q, hd, rfl, rfl, rfl⟩ |
    ⟨hr, ho, hd, q, rest, hn, rfl, rfl, rfl⟩
  · rw [hr]
  · rw [hr, ho]
  · rw [hr, ho, hd]
  · rw [hr, ho, hd, hn]

/-- R134: an attempt that may begin, at its threshold, puts the symbols of its frame on the wire. -/
theorem execAttemptStart_sends {s : State} {k : ListKind} {gap : Nat} {out : OutFrame}
    (hnext : s.line.nextInLine = some (k, gap, out)) (hsend : s.maySend = true)
    (hcount : s.threshold gap ≤ s.line.accessCount) : execAttemptStart s = .next (s.withLine { s.line with
      wire := some ⟨k, frameSymbols (out.bytes s.own), false, true⟩ }) := by
  simp only [execAttemptStart, hnext, hsend, if_true, Nat.max_eq_left hcount]

/-! ### The line output (R120, R135, R136) -/

theorem State.lineOut_symbol {s : State} {a : Attempt} (hwire : s.line.wire = some a) (hb : a.breaking = false)
    {sym : Sym} {rest : List Sym} (hs : a.symbols = sym :: rest) : s.lineOut = sym.group := by
  simp [State.lineOut, Line.driven, hwire, hb, hs]

/-- Settles O47: the frame next in line is sent at its threshold, and the transmitter drives its next symbol. -/
theorem attemptPutsNextFrameOnWire : Obligations.AttemptPutsNextFrameOnWire := by
  refine ⟨fun s k gap out hfirst hstep hlisten hwire hactive hcount => ?_,
    fun s => ⟨fun hwire => ?_, fun a hwire => ⟨fun hb => ?_, fun sym rest hb hs g hg => ?_⟩⟩⟩
  · have hsend : s.maySend = true := by simp [State.maySend, hstep, hlisten, hwire, hactive]
    exact execAttemptStart_sends (Line.nextInLine_eq hfirst) hsend hcount
  · simp [State.lineOut, Line.driven, hwire]
  · simp [State.lineOut, Line.driven, hwire, hb, Sym.group]
  · rw [State.lineOut_symbol hwire hb hs]
    exact (by decide : ∀ x ∈ (_ : List (Sym × Group)), x.1.group = some x.2) (sym, g) hg

/-! ### The monitor and the step lock (R123, R127 to R129, R140) -/

theorem execLineActive_settled {s : State} (h : s.line.active = false) :
    execLineActive s = .next (s.withLine { s.line with
      active := true, accessCount := 0, activityCount := 1, quietRun := 0,
      inStepCount := if s.line.inStep then s.line.inStepCount else 0 }) := by
  simp [execLineActive, h]

theorem execLineSettled_active {s : State} (h : s.line.active = true) :
    execLineSettled s = .next (s.withLine s.line.settle) := by
  simp [execLineSettled, h]

theorem execInStep_out {s : State} (hout : s.line.inStep = false) (hfault : s.line.lineFault = false) :
    execInStep s = .next (s.withLine { s.line with inStep := true, inStepCount := 0, rx := .hunting }) := by
  simp [execInStep, hout, hfault]

/-- Settles O50: each row writes its own fields of the Line Interface, and a frame of another station none. -/
theorem monitorAndStepLockFollowLine : Obligations.MonitorAndStepLockFollowLine := by
  refine ⟨fun s h => ⟨_, execLineActive_settled h, ?_, rfl, rfl, rfl, fun hout => if_neg (by simp [hout]), rfl⟩,
    fun s h => ⟨_, execLineSettled_active h, ?_, rfl, rfl, rfl⟩, fun s hout hfault _ => execInStep_out hout hfault,
    fun s => rfl, fun s => ⟨_, rfl, fun nibbles shut echo h => ?_, fun h => ?_⟩, fun _ _ _ _ _ _ _ => rfl,
    fun _ _ _ _ _ _ _ _ => rfl⟩
  · rw [← h]; rfl
  · rw [← h]; rfl
  · rw [h]; rfl
  · rw [h]

end Sys2Proof.Machine
end

section
/-! PROOFS. What a warm restart leaves of every block but the records (O5). -/

namespace Sys2Proof.Machine

/-- R181: the scanner waits for the keys to be released where one reads down. -/
theorem Keypad.restarted_scan (keys : List Key) :
    (Keypad.restarted !keys.isEmpty).scan = if keys = [] then .up else .reject := by
  cases keys <;> simp [Keypad.restarted]

/-- Settles O5: each block is the one that its own restart gives, and the line is so but for its notices. -/
theorem warmRestartTakenByEveryBlock : Obligations.WarmRestartTakenByEveryBlock := by
  intro s
  obtain ⟨hstraps, htime, hscan, hpins, -, -, -, hcount, hlatch, hkeypad, hbook, hshare, hcip, hlamp⟩ :=
    s.warmRestart_fields
  obtain ⟨notices, hline, -⟩ := s.warmRestart_line_restarted
  refine ⟨s.warmRestart, rfl, hstraps, htime, hcount, hpins, hscan, ?latch, ?keypad, hbook, ?share, ?grant, ?line, ?cip,
    hlamp⟩
  case latch => rw [hlatch]; exact ⟨rfl, rfl⟩
  case keypad => rw [hkeypad]; exact ⟨Keypad.restarted_scan _, rfl, rfl, rfl, rfl, rfl, rfl, rfl⟩
  case share => rw [hshare]; exact ⟨rfl, rfl, rfl, rfl, rfl, rfl, rfl, rfl, rfl⟩
  case grant => rw [s.warmRestart_grant]; exact ⟨rfl, rfl, rfl⟩
  case line =>
    rw [hline]
    exact ⟨rfl, rfl, rfl, rfl, rfl, rfl, rfl, rfl, rfl, rfl, rfl, rfl, rfl, rfl, rfl, rfl⟩
  case cip => rw [hcip]; exact ⟨rfl, rfl⟩

end Sys2Proof.Machine
end

section
/-! PROOFS. The arrival of a COMMAND (O52). -/

namespace Sys2Proof.Machine

/-! ### Immediate answers (R148) -/

/-- R148: the places of the reply list that an immediate answer may take. -/
def State.answerRoom (s : State) : Nat := Config.replyCapacity - s.cip.proc.owed - s.line.replies.length

/-- R129, R148: the state once immediate answers have been handed: as many as there is room for join the list, while the
station is in step. -/
def State.answeredNow (s : State) (answers : List ReplyFrame) : State :=
  s.withLine { s.line with replies :=
    s.line.replies ++ if s.line.inStep then (answers.take s.answerRoom).map (⟨·, 0⟩) else [] }

/-- R129, R148: out of step, or with no room, the answers are gone. -/
theorem State.answeredNow_of_no_room {s : State} (h : s.line.inStep = false ∨ s.answerRoom = 0)
    (answers : List ReplyFrame) : s.answeredNow answers = s := by
  have hlist : s.line.replies ++ (if s.line.inStep then (answers.take s.answerRoom).map (⟨·, 0⟩) else []) =
      s.line.replies := by rcases h with h | h <;> simp [h]
  rw [State.answeredNow, hlist]
  rfl

theorem State.answeredNow_nil (s : State) : s.answeredNow [] = s := by
  simp [State.answeredNow, State.withLine]

/-- R148: answers handed one after another join the list as they do together. -/
theorem State.answeredNow_append (s : State) (first more : List ReplyFrame) :
    (s.answeredNow first).answeredNow more = s.answeredNow (first ++ more) := by
  cases hstep : s.line.inStep with
  | false => simp [State.answeredNow_of_no_room, hstep]
  | true =>
    have hleft : (s.answeredNow first).answerRoom = s.answerRoom - first.length := by
      simp only [State.answerRoom, State.answeredNow, hstep, State.withLine_line, State.withLine_cip, if_true,
        List.length_append, List.length_map, List.length_take]
      omega
    rw [State.answeredNow, hleft]
    simp [State.answeredNow, State.withLine, hstep, List.take_append]

/-- R148: an answer that ends no restart joins the list where it may, or is gone; none goes to the address of all. -/
theorem State.answerNow_eq {s : State} (hlisten : s.line.listenOnly = false) {f : ReplyFrame}
    (hf : f.endsRestart = false) (c : CommandFrame) :
    s.answerNow c f = s.answeredNow (if c.dest = 31 then [] else [f]) := by
  by_cases hd : c.dest = 31
  · rw [State.answerNow, if_neg (by simp [hd]), if_pos hd, State.answeredNow_nil]
  rw [State.answerNow, if_neg hd]
  by_cases hroom : s.line.replies.length < Config.replyCapacity - s.cip.proc.owed
  · rw [if_pos ⟨hd, hroom⟩]
    cases hstep : s.line.inStep with
    | true =>
      have htake : [f].take s.answerRoom = [f] := List.take_of_length_le (by simp [State.answerRoom]; omega)
      rw [State.handReply_joins hstep hlisten (Nat.lt_of_lt_of_le hroom (Nat.sub_le ..)), State.answeredNow, htake]
      simp [hstep]
    | false =>
      rw [State.handReply_reports (.inl hstep), State.reportReply, if_neg (by simp [hf]),
        State.answeredNow_of_no_room (.inl hstep)]
  · have hnone : s.answerRoom = 0 := by simp only [State.answerRoom]; omega
    rw [if_neg fun h => hroom h.2, State.answeredNow_of_no_room (.inr hnone)]

/-- R147, R148: the superseded LOADs that were addressed to the own station are answered in their order. -/
theorem State.foldl_supersededReply {s : State} (hlisten : s.line.listenOnly = false) (gone : List CommandFrame) :
    gone.foldl (fun u h => u.answerNow h (u.supersededReply h)) s =
      s.answeredNow ((gone.filter (·.dest != 31)).map s.supersededReply) := by
  induction gone generalizing s with
  | nil => exact s.answeredNow_nil.symm
  | cons h gone ih =>
    have hsame : ∀ fs, (s.answeredNow fs).supersededReply = s.supersededReply := fun _ => rfl
    rw [List.foldl_cons, State.answerNow_eq hlisten rfl, ih (s := s.answeredNow _) hlisten, State.answeredNow_append,
      hsame]
    by_cases hd : h.dest = 31 <;> simp [hd]

/-! ### Arrival (R146, R147) -/

/-- R147: the inbox without the LOADs that an arriving command supersedes. -/
def CommandFrame.keeps (c : CommandFrame) (inbox : List CommandFrame) : List CommandFrame :=
  inbox.filter fun h => !c.supersedes h

/-- R148: the answers to the LOADs that a command supersedes. -/
def State.supersededReplies (s : State) (c : CommandFrame) : List ReplyFrame :=
  ((s.cip.inbox.filter c.supersedes).filter (·.dest != 31)).map s.supersededReply

/-- R146, R148: the answer to a command that finds this inbox full. -/
def CommandFrame.busyReplies (c : CommandFrame) (kept : List CommandFrame) : List ReplyFrame :=
  if kept.length < 4 ∨ c.dest = 31 then [] else [busyReply c]

/-- R147: the superseded LOADs leave the inbox and are answered. -/
theorem State.supersede_eq {s : State} (hlisten : s.line.listenOnly = false) (c : CommandFrame) :
    (s.cip.inbox.filter c.supersedes).foldl (fun u h => u.answerNow h (u.supersededReply h))
      (s.withCip { s.cip with inbox := c.keeps s.cip.inbox }) =
    (s.withCip { s.cip with inbox := c.keeps s.cip.inbox }).answeredNow (s.supersededReplies c) :=
  State.foldl_supersededReply (s := s.withCip { s.cip with inbox := c.keeps s.cip.inbox }) hlisten _

/-- R146 to R148: a command joins an inbox with room, or is answered BUSY. -/
theorem execCommand_eq {src dest verb : Nat} {ops : List Nat} {s : State} {c : CommandFrame}
    (hc : c = ⟨src, dest, verb, ops⟩) (hlisten : s.line.listenOnly = false) : execCommand src dest verb ops s =
      .next ((s.answeredNow (s.supersededReplies c ++ c.busyReplies (c.keeps s.cip.inbox))).withCip { s.cip with
        inbox := if (c.keeps s.cip.inbox).length < 4 then c.keeps s.cip.inbox ++ [c] else c.keeps s.cip.inbox }) := by
  have hexec : execCommand src dest verb ops s =
      let u := (s.withCip { s.cip with inbox := c.keeps s.cip.inbox }).answeredNow (s.supersededReplies c)
      .next (if u.cip.inbox.length < 4 then u.withCip { u.cip with inbox := u.cip.inbox ++ [c] }
        else u.answerNow c (busyReply c)) := by
    rw [← State.supersede_eq hlisten, execCommand, if_neg (by simp [hlisten]), ← hc]
    rfl
  rw [hexec]
  by_cases hroom : (c.keeps s.cip.inbox).length < 4
  · simp only [CommandFrame.busyReplies, hroom, true_or, if_true, List.append_nil]
    exact congrArg Host.Outcome.next (if_pos hroom)
  · simp only [CommandFrame.busyReplies, hroom, false_or, if_false]
    refine congrArg Host.Outcome.next ((if_neg hroom).trans ?_)
    rw [State.answerNow_eq (by exact hlisten) (by simp [ReplyFrame.endsRestart, busyReply]), State.answeredNow_append]
    rfl

/-- R150: the locker and state in an answer to a superseded LOAD are those of the record that holds the order. -/
theorem State.lookupReply_eq {s : State} (hone : s.OneHolder) {order L S : Nat}
    (h : (s.HeldNowhere order ∧ L = 0 ∧ S = 0) ∨ ∃ r o, s.HeldAt order L r o ∧ S = r.state.code) :
    s.lookupReply order = (L, S) := by
  rcases h with ⟨hnone, rfl, rfl⟩ | ⟨r, o, hheld, rfl⟩
  · simp [State.lookupReply, (s.holder?_eq_none_iff order).mpr hnone]
  · simp [State.lookupReply, State.holder?_of_heldAt hone hheld, hheld.1]

/-- R147, R148: the LOADs that a command supersedes are all of its order, so they have one answer but for their source. -/
theorem State.supersededReplies_eq {s : State} {c : CommandFrame} {L S : Nat} (h : s.lookupReply c.order = (L, S)) :
    s.supersededReplies c = (s.cip.inbox.filter fun h => c.supersedes h && h.dest != 31).map fun h =>
      ⟨h.src, 1, .refuse, .superseded, L, S, [0, 0, 0, 0, 0, 0, 0]⟩ := by
  simp only [State.supersededReplies, List.filter_filter, Bool.and_comm (_ != 31)]
  refine List.map_congr_left fun d hd => ?_
  have horder : d.order = c.order := by
    have hcond := (List.mem_filter.mp hd).2
    simp only [CommandFrame.supersedes, Bool.and_eq_true, beq_iff_eq] at hcond
    exact hcond.1.2
  simp [State.supersededReply, horder, h, verbLoad, zeroData]

/-- Settles O52: the superseded LOADs are answered, and then the command joins the inbox or is answered BUSY. -/
theorem commandArrivalJoinsOrAnswers : Obligations.CommandArrivalJoinsOrAnswers := by
  refine ⟨fun src dest verb ops s hlisten => ?_,
    fun src dest verb ops s c kept answers L S room hc hone hlisten hkept hheld hroom hanswers => ?_⟩
  · exact congrArg Host.Outcome.next (if_pos hlisten)
  · have hk : c.keeps s.cip.inbox = kept := by rw [hkept, hc]; rfl
    have ha : s.supersededReplies c ++ c.busyReplies kept = answers := by
      rw [State.supersededReplies_eq (State.lookupReply_eq hone hheld), hanswers, hc]
      rfl
    have howed : room = Config.replyCapacity - s.cip.proc.owed := by
      rw [hroom]
      cases s.cip.proc with
      | writing w => by_cases hd : w.dest = 31 <;> simp [Proc.owed, Config.replyCapacity, hd]
      | free | restarting => rfl
    have hr : s.answerRoom = room - s.line.replies.length := by rw [howed, State.answerRoom]
    refine ⟨_, execCommand_eq hc hlisten, ?_, ?_, rfl⟩
    · rw [hk]
      rfl
    · rw [hk, ha, ← hr]
      rfl

end Sys2Proof.Machine
end

section
/-! PROOFS. The screening of the verbs (O55), and QUERY, QUERY_BANK, LAMPTEST and UNKNOWN_VERB (O57). -/

namespace Sys2Proof.Machine

/-- R149, R150: a verb that the processor takes, by a rule that leaves the processor and the reply list. -/
theorem State.takeVerb_replied {s v : State} {c : CommandFrame} {rest : List CommandFrame} {a : Answer}
    (h : s.Takes c rest) {isVerb : CommandFrame → Bool} (hv : isVerb c = true)
    {rule : CommandFrame → State → State × Answer} (hrule : rule c (s.taken rest) = (v, a))
    (hcip : v.cip = (s.taken rest).cip) (hrep : v.line.replies = s.line.replies) :
    s.takeVerb isVerb rule = v.replied c a := by
  rw [State.takeVerb_taken h hv, hrule]
  obtain ⟨-, hfree, hroom⟩ := h
  exact State.answer_eq (by simp [hcip, hfree]) (by rw [hrep]; exact hroom) c a

/-- Every arm of the dispatch ends in a next state (log 29). -/
theorem exec_completes (c : Instr) (s : State) : ∃ t, Completes c s t := by
  cases c <;> exact ⟨_, rfl⟩

/-- R149: the test for a verb byte passes for that byte. -/
theorem CommandFrame.isVerb_eq_true {c : CommandFrame} {verb : Nat} (h : c.verb = verb) : c.isVerb verb = true := by
  simp [CommandFrame.isVerb, h]

/-! ### Refusals (R150, R153 to R155) -/

/-- R150: the rows of the verbs that COMMISSION refuses, with the rule of each. -/
inductive ServiceVerb : Instr → Nat → (CommandFrame → State → State × Answer) → Prop
  | load : ServiceVerb .load 1 loadRule
  | void : ServiceVerb .void 2 voidRule
  | clear : ServiceVerb .clear 3 (lockerRule clearRule)
  | block : ServiceVerb .block 4 (lockerRule blockRule)
  | unblock : ServiceVerb .unblock 5 (lockerRule unblockRule)

/-- R150: each of these rows takes its verb outside COMMISSION. -/
theorem ServiceVerb.exec_eq {row : Instr} {verb : Nat} {rule : CommandFrame → State → State × Answer}
    (h : ServiceVerb row verb rule) (s : State) :
    exec row s = .next (s.takeVerb (CommandFrame.isVerb verb) (inService rule)) := by
  cases h <;> rfl

section
variable {s t : State} {c : CommandFrame} {rest : List CommandFrame} {row : Instr} (ht : s.Takes c rest)
  (hrow : Completes row s t) {why : ReplyReason} {locker code : Nat}
include ht hrow

/-- R149, R150: a taken command whose rule refuses it and changes nothing. -/
theorem State.refusedOnly_of_rule {isVerb : CommandFrame → Bool} {rule : CommandFrame → State → State × Answer}
    (hexec : exec row s = .next (s.takeVerb isVerb rule)) (hv : isVerb c = true)
    (hrule : rule c (s.taken rest) = (s.taken rest, .refuse why locker code)) :
    s.RefusedOnly t c rest why locker code := by
  obtain rfl : s.takeVerb isVerb rule = t := Host.Outcome.next.inj (hexec.symm.trans hrow)
  rw [State.takeVerb_replied ht hv hrule rfl rfl]
  exact ⟨rfl, rfl, rfl, State.answered_replied rfl _ rfl rfl rfl⟩

/-- R150: in COMMISSION a verb that serves orders or lockers is refused, whatever its rule. -/
theorem ServiceVerb.refusedOnly_commission {verb : Nat} {rule : CommandFrame → State → State × Answer}
    (h : ServiceVerb row verb rule) (hv : c.verb = verb) (hcom : s.straps.commission = true) :
    s.RefusedOnly t c rest .notInService 0 0 :=
  State.refusedOnly_of_rule ht hrow (h.exec_eq s) (CommandFrame.isVerb_eq_true hv) (if_pos hcom)

/-- R150: outside COMMISSION the rule of the verb refuses. -/
theorem ServiceVerb.refusedOnly_of_rule {verb : Nat} {rule : CommandFrame → State → State × Answer}
    (h : ServiceVerb row verb rule) (hv : c.verb = verb) (hcom : s.straps.commission = false)
    (hrule : rule c (s.taken rest) = (s.taken rest, .refuse why locker code)) :
    s.RefusedOnly t c rest why locker code :=
  State.refusedOnly_of_rule ht hrow (h.exec_eq s) (CommandFrame.isVerb_eq_true hv)
    ((if_neg (by simp [hcom])).trans hrule)

end

/-- R153, R154: an operand that names no locker. -/
theorem lockerRule_none {s : State} {c : CommandFrame} (h : s.locker? c.operand = none)
    (rule : Nat → Locker → State → State × Answer) : lockerRule rule c s = (s, .refuse .noSuchLocker 0 0) := by
  simp [lockerRule, h]

/-- R153, R154: a record that is not swept. -/
theorem lockerRule_unswept {s : State} {c : CommandFrame} {r : Locker} (h : s.locker? c.operand = some r)
    (hs : r.swept = false) (rule : Nat → Locker → State → State × Answer) :
    lockerRule rule c s = (s, .refuse .wrongState c.operand r.state.code) := by
  simp [lockerRule, h, hs]

/-- R155: an operand above N. -/
theorem queryRule_none {s : State} {c : CommandFrame} (h : s.locker? c.operand = none) :
    queryRule c s = (s, .refuse .noSuchLocker 0 0) := by
  simp [queryRule, h]

/-- R155: an operand that names a locker. -/
theorem queryRule_some {s : State} {c : CommandFrame} {r : Locker} (h : s.locker? c.operand = some r) :
    queryRule c s = (s, ⟨.accept, .none, c.operand, r.state.code, s.lockerData c.operand r⟩) := by
  simp [queryRule, h]

/-- R153, R154: the rows of the locker verbs. -/
theorem serviceVerb_of_lockerVerb {row : Instr} {verb : Nat}
    (h : (row = .clear ∧ verb = 3) ∨ (row = .block ∧ verb = 4) ∨ (row = .unblock ∧ verb = 5)) :
    ∃ rule, ServiceVerb row verb (lockerRule rule) := by
  rcases h with ⟨rfl, rfl⟩ | ⟨rfl, rfl⟩ | ⟨rfl, rfl⟩
  · exact ⟨_, .clear⟩
  · exact ⟨_, .block⟩
  · exact ⟨_, .unblock⟩

/-- R150: the rows of the verbs that COMMISSION refuses. -/
theorem serviceVerb_of_verb {row : Instr} {verb : Nat} (h : (row = .load ∧ verb = 1) ∨ (row = .void ∧ verb = 2) ∨
    (row = .clear ∧ verb = 3) ∨ (row = .block ∧ verb = 4) ∨ (row = .unblock ∧ verb = 5)) :
    ∃ rule, ServiceVerb row verb rule := by
  rcases h with ⟨rfl, rfl⟩ | ⟨rfl, rfl⟩ | h
  · exact ⟨_, .load⟩
  · exact ⟨_, .void⟩
  · obtain ⟨_, h⟩ := serviceVerb_of_lockerVerb h
    exact ⟨_, h⟩

/-- Settles O55: COMMISSION comes first, then the operand, and then whether the record is swept. -/
theorem verbsAreScreened : Obligations.VerbsAreScreened := by
  intro s c rest row ht
  obtain ⟨t, hrow⟩ := exec_completes row s
  refine ⟨t, hrow, fun hcom hverb => ?_, fun hcom hnone hverb => ?_, fun hquery hv hop hnone => ?_,
    fun r hcom hr hs hverb => ?_⟩
  · obtain ⟨rule, h⟩ := serviceVerb_of_verb hverb
    exact h.refusedOnly_commission ht hrow rfl hcom
  · obtain ⟨rule, h⟩ := serviceVerb_of_lockerVerb hverb
    exact h.refusedOnly_of_rule ht hrow rfl hcom (lockerRule_none (s := s.taken rest) hnone rule)
  · subst hquery
    have hop : c.operand ≠ 0 := hop
    exact State.refusedOnly_of_rule ht hrow rfl (by simp [hv, verbQuery, hop])
      (queryRule_none (s := s.taken rest) hnone)
  · obtain ⟨rule, h⟩ := serviceVerb_of_lockerVerb hverb
    exact h.refusedOnly_of_rule ht hrow rfl hcom (lockerRule_unswept (s := s.taken rest) hr hs rule)

/-! ### The data of a QUERY (R125, R155, R156) -/

/-- R125, R155: the data bytes of a locker, with the order number that the record holds. -/
theorem State.lockerData_eq (s : State) (i : Nat) {r : Locker} {n : Nat}
    (hn : r.order = none ∧ n = 0 ∨ ∃ o, r.order = some o ∧ n = o.order) : s.lockerData i r =
      [n / 65536 % 256, n / 256 % 256, n % 256, r.temp, r.level + (if i ∈ s.grant.list then 128 else 0),
        min 255 (r.cold / 8), min 255 (r.holdAge / 60)] := by
  have horder : r.orderNumber = n := by
    rcases hn with ⟨ho, rfl⟩ | ⟨o, ho, rfl⟩ <;> simp [Locker.orderNumber, ho]
  simp [State.lockerData, bytes24, flagBit, horder]

/-- R125, R156: the data bytes of the bank. -/
theorem State.bankData_eq (s : State) : s.bankData =
    [s.share.allowance / 256 % 256, s.share.allowance % 256, s.demandHU / 256 % 256, s.demandHU % 256,
      s.share.peers.length,
      s.share.state.code + (if s.time.feederTrip ∨ s.time.supplyLow then 4 else 0) +
        (if s.straps.commission then 8 else 0) + (if s.share.peerTrip then 32 else 0) +
        (if s.share.wallOver then 64 else 0),
      s.grant.mask] := by
  simp [State.bankData, bytes16, flagBit, State.tripped]

/-! ### Verbs that are answered in COMMISSION too (R155 to R157) -/

section
variable {s : State} {c : CommandFrame} {rest : List CommandFrame} (ht : s.Takes c rest)
include ht

theorem execQuery_eq {r : Locker} (hv : c.verb = 6) (hr : s.locker? c.operand = some r) : execQuery s =
    .next ((s.taken rest).replied c
      ⟨.accept, .none, c.operand, r.state.code, (s.taken rest).lockerData c.operand r⟩) := by
  have hop : c.operand ≠ 0 := Nat.one_le_iff_ne_zero.mp (State.locker?_eq_some hr).1
  exact congrArg _ (State.takeVerb_replied ht (by simp [hv, verbQuery, hop])
    (queryRule_some (s := s.taken rest) hr) rfl rfl)

theorem execQueryBank_eq (hv : c.verb = 6) (hop : c.operand = 0) : execQueryBank s =
    .next ((s.taken rest).replied c ⟨.accept, .none, 0, 0, (s.taken rest).bankData⟩) :=
  congrArg _ (State.takeVerb_replied ht (by simp [hv, verbQuery, hop]) rfl rfl rfl)

theorem execLampTest_accepts (hv : c.verb = 7) (hop : 1 ≤ c.operand ∧ c.operand ≤ 30) : execLampTest s =
    .next (((s.taken rest).withLamp { s.lamp with test := some (Config.sec c.operand) }).replied c (.accept 0 0)) :=
  congrArg Host.Outcome.next
    (State.takeVerb_replied ht (CommandFrame.isVerb_eq_true hv) (rule := lampTestRule) (if_pos hop) rfl rfl)

theorem execLampTest_refuses (hv : c.verb = 7) (hop : ¬ (1 ≤ c.operand ∧ c.operand ≤ 30)) : execLampTest s =
    .next ((s.taken rest).replied c (.refuse .badValue 0 0)) :=
  congrArg Host.Outcome.next
    (State.takeVerb_replied ht (CommandFrame.isVerb_eq_true hv) (rule := lampTestRule) (if_neg hop) rfl rfl)

theorem execUnknownVerb_eq (hv : c.verb = 0 ∨ 9 < c.verb) : execUnknownVerb s =
    .next ((s.taken rest).replied c (.refuse .badValue 0 0)) :=
  congrArg _ (State.takeVerb_replied ht (by simpa using hv) rfl rfl rfl)

end

/-- Settles O57: each row is the take of its command and the answer, and a LAMPTEST that is accepted sets the timer. -/
theorem queriesAndLampTestAnswer : Obligations.QueriesAndLampTestAnswer := by
  intro s c rest ht
  refine ⟨fun i r hv hi hr => ?_, fun hv hop => ?_, fun hv => ?_, fun hv => ?_⟩
  · subst hi
    refine ⟨_, execQuery_eq ht hv hr, rfl, rfl, rfl, fun n hn => ?_⟩
    rw [State.lockerData_eq _ _ hn]
    exact State.answered_replied hv _ rfl rfl rfl
  · refine ⟨_, execQueryBank_eq ht hv hop, rfl, rfl, rfl, ?_⟩
    rw [State.bankData_eq]
    exact State.answered_replied hv _ rfl rfl rfl
  · by_cases hop : 1 ≤ c.ops.getD 0 0 ∧ c.ops.getD 0 0 ≤ 30
    · exact ⟨_, execLampTest_accepts ht hv hop, rfl, rfl, rfl,
        fun _ _ => ⟨State.answered_replied hv _ rfl rfl rfl, rfl⟩, fun hbad => by omega⟩
    · exact ⟨_, execLampTest_refuses ht hv hop, rfl, rfl, rfl, fun h1 h2 => absurd ⟨h1, h2⟩ hop,
        fun _ => ⟨State.answered_replied hv _ rfl rfl rfl, rfl⟩⟩
  · exact ⟨_, execUnknownVerb_eq ht hv, rfl, rfl, rfl, State.answered_replied rfl _ rfl rfl rfl⟩

end Sys2Proof.Machine
end

section
/-! PROOFS. DIGIT, CLEAR, KEY_REJECT, KEYS_RELEASED and the keypad timers (O59). -/

namespace Sys2Proof.Machine

/-! ### Keys (R173, R174, R180) -/

/-- R173, R180: a key that is accepted moves the entry as `f` says, unless a lockout discards it. -/
def State.keyTaken (s : State) (key : Key) (f : Keypad → Keypad) : State :=
  if s.keypad.lockout.isSome then s.acceptKey key else (s.acceptKey key).withKeypad (f (s.acceptKey key).keypad)

theorem execDigitKey_up (d : Nat) {s : State} (hs : s.keypad.scan = .up) :
    execDigitKey d s = .next (s.keyTaken (.digit d) (·.digit d)) := by
  rw [execDigitKey, if_pos hs]
  rfl

theorem execClearKey_up {s : State} (hs : s.keypad.scan = .up) :
    execClearKey s = .next (s.keyTaken .clear Keypad.emptied) := by
  rw [execClearKey, if_pos hs]
  rfl

/-- The keypad k' is k in all but the entry: the buffer, its overlong mark and the entry timer. -/
abbrev Keypad.EntryOnly (k k' : Keypad) : Prop :=
  k'.scan = k.scan ∧ k'.strikes = k.strikes ∧ k'.lockout = k.lockout ∧ k'.beeper = k.beeper

theorem Keypad.entryOnly_digit (k : Keypad) (d : Nat) : k.EntryOnly (k.digit d) := by
  unfold Keypad.digit
  split <;> exact ⟨rfl, rfl, rfl, rfl⟩

theorem Keypad.entryOnly_emptied (k : Keypad) : k.EntryOnly k.emptied := ⟨rfl, rfl, rfl, rfl⟩

/-- R174, R175: a digit joins a buffer that has room or marks a full one as overlong, and restarts the entry timer. -/
theorem Keypad.digit_entry (k : Keypad) (d : Nat) : (k.digit d).entryTimer = some 0 ∧
    if k.buffer.length < 8 then (k.digit d).buffer = k.buffer ++ [d] ∧ (k.digit d).overlong = k.overlong
    else (k.digit d).buffer = k.buffer ∧ (k.digit d).overlong = true := by
  unfold Keypad.digit
  split <;> exact ⟨rfl, rfl, rfl⟩

/-- R180: a lockout discards the key, but not its effect on the scanner. -/
theorem State.keyTaken_locked {s : State} (hl : s.keypad.lockout.isSome = true) (key : Key) (f : Keypad → Keypad) :
    s.keyTaken key f = s.acceptKey key := if_pos hl

theorem State.keyTaken_open {s : State} (hl : s.keypad.lockout = none) (key : Key) (f : Keypad → Keypad) :
    s.keyTaken key f = (s.acceptKey key).withKeypad (f (s.acceptKey key).keypad) := if_neg (by simp [hl])

/-- R173: a key that moves the entry alone puts the scanner DOWN and leaves the other blocks. -/
theorem State.keyTaken_frame (s : State) (key : Key) {f : Keypad → Keypad} (hf : ∀ k : Keypad, k.EntryOnly (f k)) :
    ({ s.keyTaken key f with keypad := s.keypad, pins := s.pins } : State) = s ∧
    (s.keyTaken key f).keypad.scan = .down ∧ (s.keyTaken key f).keypad.strikes = s.keypad.strikes ∧
    (s.keyTaken key f).keypad.lockout = s.keypad.lockout ∧ (s.keyTaken key f).keypad.beeper = s.keypad.beeper := by
  by_cases hl : s.keypad.lockout = none
  · rw [State.keyTaken_open hl]
    exact ⟨rfl, hf (s.acceptKey key).keypad⟩
  · rw [State.keyTaken_locked (Option.isSome_iff_ne_none.mpr hl)]
    exact ⟨rfl, rfl, rfl, rfl, rfl⟩

/-! ### Timers (R175, R179) -/

theorem execEntryTimeout_running {s : State} (h : s.keypad.entryTimer.isSome = true) :
    execEntryTimeout s = .next (s.withKeypad s.keypad.emptied) := by
  simp [execEntryTimeout, h]

theorem execStrikeAgedOut_cons {s : State} {age : Nat} {rest : List Nat} (h : s.keypad.strikes = age :: rest) :
    execStrikeAgedOut s = .next (s.withKeypad { s.keypad with strikes := rest }) := by
  simp [execStrikeAgedOut, h]

/-! ### The beeper output (R178) -/

/-- R178: ACK and WAIT sound one tone of their whole length. -/
theorem Beep.tone_single {b : Beep} (h : b = .ack ∨ b = .wait) (t : Nat) : b.tone t = true ↔ t < b.length := by
  rcases h with rfl | rfl <;> simp [Beep.tone]

/-- R178: ACCEPT and LOCKOUT sound the even tenths of a second of their length. -/
theorem Beep.tone_tenths {b : Beep} (h : b = .accept ∨ b = .lockout) (t : Nat) :
    b.tone t = true ↔ t < b.length ∧ t / 10000 % 2 = 0 := by
  have htenth : Config.ms 100 = 10000 := rfl
  rcases h with rfl | rfl <;> simp [Beep.tone, htenth]

theorem Beep.tone_accept (t : Nat) : Beep.accept.tone t = true ↔ t < 10000 ∨ (20000 ≤ t ∧ t < 30000) := by
  have hlength : Beep.accept.length = 30000 := rfl
  rw [Beep.tone_tenths (.inl rfl), hlength]
  omega

theorem Beep.tone_lockout (t : Nat) : Beep.lockout.tone t = true ↔
    t < 10000 ∨ (20000 ≤ t ∧ t < 30000) ∨ (40000 ≤ t ∧ t < 50000) := by
  have hlength : Beep.lockout.length = 50000 := rfl
  rw [Beep.tone_tenths (.inr rfl), hlength]
  omega

/-- R178: ALERT sounds half a second, is silent for a tenth and sounds to its end. -/
theorem Beep.tone_alert (t : Nat) : Beep.alert.tone t = true ↔ t < 50000 ∨ (60000 ≤ t ∧ t < 110000) := by
  have h500 : Config.ms 500 = 50000 := rfl
  have h600 : Config.ms 600 = 60000 := rfl
  have hlength : Beep.alert.length = 110000 := rfl
  simp [Beep.tone, h500, h600, hlength]

theorem State.beepOut_silent {s : State} (h : s.keypad.beeper = none) : s.beepOut = false := by
  simp [State.beepOut, h]

theorem State.beepOut_sounding {s : State} {b : Beep} {n : Nat} (h : s.keypad.beeper = some ⟨b, n⟩) :
    s.beepOut = b.tone n := by
  simp [State.beepOut, h]

/-- Settles O59: a key is taken or discarded by the lockout, each timer ends what it names, and each pattern's tones
stand at their times. -/
theorem keysAndTimersMoveKeypad : Obligations.KeysAndTimersMoveKeypad := by
  refine ⟨fun d s hs => ?digit, fun s hs => ?clear, fun k₁ k₂ s => ⟨_, rfl, rfl, rfl, rfl⟩,
    fun s => ⟨_, rfl, rfl, rfl, rfl, rfl⟩, fun s h => execEntryTimeout_running h,
    fun s age rest h => execStrikeAgedOut_cons h, fun s => rfl, fun s => rfl,
    fun s => ⟨State.beepOut_silent, fun pattern n h => ?beeper⟩⟩
  case digit =>
    obtain ⟨hself, hscan, hstrikes, hlock, hbeep⟩ := s.keyTaken_frame (.digit d) (f := (·.digit d)) (·.entryOnly_digit d)
    refine ⟨_, execDigitKey_up d hs, hself, hscan, hstrikes, hlock, hbeep, fun hl => ?_, fun hl => ?_⟩
    · rw [State.keyTaken_locked hl]
      exact ⟨rfl, rfl, rfl⟩
    · rw [State.keyTaken_open hl]
      exact (s.acceptKey (.digit d)).keypad.digit_entry d
  case clear =>
    obtain ⟨hself, hscan, hstrikes, hlock, hbeep⟩ := s.keyTaken_frame .clear Keypad.entryOnly_emptied
    refine ⟨_, execClearKey_up hs, hself, hscan, hstrikes, hlock, hbeep, fun hl => ?_, fun hl => ?_⟩
    · rw [State.keyTaken_locked hl]
      exact ⟨rfl, rfl, rfl⟩
    · rw [State.keyTaken_open hl]
      exact ⟨rfl, rfl, rfl⟩
  case beeper =>
    rw [State.beepOut_sounding h]
    cases pattern with
    | ack => exact Beep.tone_single (.inl rfl) n
    | wait => exact Beep.tone_single (.inr rfl) n
    | alert => exact Beep.tone_alert n
    | accept => exact Beep.tone_accept n
    | lockout => exact Beep.tone_lockout n

end Sys2Proof.Machine
end

section
/-! PROOFS. What holds at reset (O7). -/

namespace Sys2Proof.Machine

/-- R191: the state at reset is one that a power-on reset leaves. -/
theorem State.reset_eq_powerOn : State.reset = State.reset.powerOn zeroStraps := rfl

/-- R69, R71, R92, R93: a power-on reset leaves nothing energised and no allowance. -/
theorem State.powerLaws_powerOn (s : State) (p : Straps) :
    (s.powerOn p).PowerLaw ∧ (s.powerOn p).AllowanceLaw ∧ (s.powerOn p).TripLaw :=
  ⟨Nat.le_refl _, Nat.zero_le _, fun _ => ⟨rfl, rfl⟩⟩

/-- R130, R131, R133, R146: a power-on reset leaves every list and the inbox empty. -/
theorem State.listLaw_powerOn (s : State) (p : Straps) : (s.powerOn p).ListLaw := by
  simp [State.ListLaw, State.powerOn, State.reset, Line.init, Cip.init, Proc.owed]

/-- R82, R144: a power-on reset leaves the bank ISOLATED, with nothing on the wire and no open entry. -/
theorem State.silentLaw_powerOn (s : State) (p : Straps) : (s.powerOn p).SilentLaw :=
  ⟨fun _ => ⟨rfl, rfl⟩, fun _ => rfl⟩

/-- R57, R61, R95, R186: a power-on reset leaves the clock UNSET and the counts, the mask and the pointers at 0. -/
theorem State.rangeLaw_powerOn (s : State) (p : Straps) : (s.powerOn p).RangeLaw :=
  ⟨by simp [State.powerOn, Timebase.init], Nat.zero_lt_succ _, Nat.zero_lt_succ _, Nat.zero_lt_succ _, rfl,
    fun _ => le_of_mem_replicate_zero⟩

/-- Settles O7: the state at reset is left by a power-on reset, and every power-on reset sets up each law. -/
theorem lawsHoldAtReset : Obligations.LawsHoldAtReset := by
  unfold Obligations.LawsHoldAtReset
  rw [State.reset_eq_powerOn]
  obtain ⟨hpower, hallowance, htrip⟩ := State.reset.powerLaws_powerOn zeroStraps
  obtain ⟨hrecord, hholder⟩ := State.reset.recordLaws_powerOn zeroStraps
  exact ⟨hpower, hallowance, htrip, State.heatLaw_powerOn _ _, hrecord, hholder, State.latchLaw_powerOn _ _,
    State.listLaw_powerOn _ _, State.silentLaw_powerOn _ _, bookFits_nil _, peersFit_nil _,
    (by decide : Keypad.init.Lawful), State.rangeLaw_powerOn _ _⟩

end Sys2Proof.Machine
end

section
/-! PROOFS. TIME (O36). -/

namespace Sys2Proof.Machine

/-! ### A recomputation of every record, entry by entry of the grant list (R49, R66) -/

/-- R66: recomputations of different records take from the list those of them whose level becomes 0, and no other. -/
theorem State.mem_foldl_recompute_grant {l : List Nat} (hl : l.Nodup) (s : State) (i : Nat) :
    i ∈ (l.foldl State.recompute s).grant.list ↔ i ∈ s.grant.list ∧ (i ∈ l → ∀ r, s.locker? i = some r →
      (r.recomputed s.time.classes s.time.clock s.straps.commission).level ≠ 0) := by
  induction l generalizing s with
  | nil => simp
  | cons j l ih =>
    obtain ⟨hj, hl⟩ := List.nodup_cons.mp hl
    rw [List.foldl_cons, ih hl, State.mem_recompute_grant]
    by_cases hij : i = j
    · subst hij
      simp [hj]
    · simp [hij]

/-- R66: after a recomputation of every record the list holds what it held, but for the lockers of level 0. -/
theorem State.mem_recomputeAll_grant (s : State) (i : Nat) :
    i ∈ s.recomputeAll.grant.list ↔
      i ∈ s.grant.list ∧ ∀ q, s.recomputeAll.locker? i = some q → q.level ≠ 0 := by
  have hmem : i ∈ s.recomputeAll.grant.list ↔ _ := State.mem_foldl_recompute_grant s.indices_nodup s i
  rw [State.recomputeAll_locker?]
  by_cases hi : i ∈ s.indices
  · simpa [hi] using hmem
  · simpa [hi, State.locker?_of_notMem_indices hi] using hmem

/-- R66: the rest of the Grant Controller stands. -/
theorem State.recomputeAll_grant_but (s : State) :
    s.recomputeAll.grant = { s.grant with list := s.recomputeAll.grant.list } := by
  obtain ⟨-, hmask, hpointers, hcadence⟩ := s.recomputeAll_grant
  dsimp only
  rw [← hmask, ← hpointers, ← hcadence]

/-- R49, R66: nothing changes but the Locker Table and the Grant Controller. -/
theorem State.recomputeAll_but (s : State) :
    ({ s.recomputeAll with lockers := s.lockers, grant := s.grant } : State) = s := by
  simp

/-! ### The row (R187) -/

theorem execTime_out_of_range {minute second : Nat} (h : ¬ (minute ≤ 1439 ∧ second ≤ 59)) (src : Nat) (s : State) :
    execTime src minute second s = .next s := by
  rw [execTime, if_neg h]

theorem execTime_in_range {minute second : Nat} (h : minute ≤ 1439 ∧ second ≤ 59) (src : Nat) (s : State) :
    execTime src minute second s =
      .next (s.withTime { s.time with clock := some minute, second := second }).recomputeAll := by
  rw [execTime, if_pos h]

/-- Settles O36: a frame in range sets the two registers, and all else is the recomputation of every record. -/
theorem timeFrameSetsClock : Obligations.TimeFrameSetsClock := by
  intro src minute second s
  by_cases hrange : minute ≤ 1439 ∧ second ≤ 59
  case neg =>
    exact ⟨s, execTime_out_of_range hrange src s, fun _ => rfl, fun hm hs => absurd ⟨hm, hs⟩ hrange⟩
  case pos =>
    refine ⟨_, execTime_in_range hrange src s, fun hn => absurd hrange hn, fun _ _ => ?_⟩
    generalize hset : s.withTime { s.time with clock := some minute, second := second } = u
    have hbut := congrArg (fun t : State => { t with time := s.time }) u.recomputeAll_but
    obtain ⟨hlist, -⟩ := u.recomputeAll_grant
    have hgrant := u.recomputeAll_grant_but
    have hmem := u.mem_recomputeAll_grant
    subst hset
    exact ⟨by simp, by simp, fun i => by simp, fun i hi => (hmem i).trans (and_iff_right hi), hlist, hgrant, hbut⟩

end Sys2Proof.Machine
end

section
/-! PROOFS. LAMP_FRAME, LAMP_TEST_END, FLASH_PHASE and the lamp outputs (O37). -/

namespace Sys2Proof.Machine

/-! ### The frame that is built (R183 to R185) -/

theorem State.buildFrame_test {s : State} (h : s.lamp.test.isSome = true) :
    s.buildFrame = List.replicate 33 ⟨true, true, true⟩ := by
  obtain ⟨n, hn⟩ := Option.isSome_iff_exists.mp h
  rw [State.buildFrame, hn]

theorem State.buildFrame_shown {s : State} (h : s.lamp.test = none) :
    s.buildFrame = ((List.range 32).map fun k => s.positionLamp (k + 1)) ++ [s.stationLamp] := by
  rw [State.buildFrame, h]

theorem State.buildFrame_length (s : State) : s.buildFrame.length = 33 := by
  cases h : s.lamp.test with
  | none => simp [State.buildFrame_shown h]
  | some n => simp [State.buildFrame_test, h]

theorem State.buildFrame_locker {s : State} (h : s.lamp.test = none) {k : Nat} (hk : k < 32) :
    s.buildFrame[k]? = some (s.positionLamp (k + 1)) := by
  simp [State.buildFrame_shown h, List.getElem?_append_left, hk]

theorem State.buildFrame_station {s : State} (h : s.lamp.test = none) : s.buildFrame[32]? = some s.stationLamp := by
  simp [State.buildFrame_shown h]

/-- R183: a HOLDING record shows green once it is ready, and amber until then. -/
theorem Locker.lamp_holding {r : Locker} (h : r.state = .holding) (lit : Bool) :
    r.lamp lit = ⟨false, r.ready, !r.ready⟩ := by
  cases hr : r.ready <;> simp [Locker.lamp, h, hr]

/-! ### The outputs (R183) -/

/-- R183: the elements of position k are the bits 3k, 3k + 1 and 3k + 2 of the frame. -/
theorem frameBits_getElem? {frame : List Lamp} {k : Nat} {p : Lamp} (h : frame[k]? = some p) :
    (frameBits frame)[3 * k]? = some p.red ∧ (frameBits frame)[3 * k + 1]? = some p.green ∧
    (frameBits frame)[3 * k + 2]? = some p.amber := by
  induction frame generalizing k with
  | nil => simp at h
  | cons q frame ih =>
    have hcons : frameBits (q :: frame) = q.red :: q.green :: q.amber :: frameBits frame := rfl
    rw [hcons]
    cases k with
    | zero =>
      obtain rfl : q = p := by simpa using h
      exact ⟨rfl, rfl, rfl⟩
    | succ k => exact ih (by simpa using h)

theorem State.lampData_eq {s : State} {n : Nat} {b : Bool} (hn : s.lamp.cadence = n)
    (hb : (frameBits s.lamp.frame)[n]? = some b) : s.lampData = b := by
  rw [State.lampData, hn, List.getD_eq_getElem?_getD, hb, Option.getD_some]

theorem State.lampStrobe_iff (s : State) : s.lampStrobe = true ↔ s.lamp.cadence = 99 := by
  simp [State.lampStrobe]

/-! ### The rows -/

/-- Settles O37: the frame's positions are the patterns of the records and the station, and its bits follow them. -/
theorem lampCommandsShowState : Obligations.LampCommandsShowState := by
  refine ⟨fun s => ⟨_, rfl, rfl, rfl, rfl, rfl, s.buildFrame_length, fun h p hp => ?lit, fun h => ⟨fun k hk => ?locker,
    ?station⟩⟩, fun s => rfl, fun s => rfl, fun s => ⟨s.lampStrobe_iff, fun k p _ hp => ?data⟩⟩
  case lit =>
    rw [State.withLamp_lamp, State.buildFrame_test h] at hp
    exact List.eq_of_mem_replicate hp
  case locker =>
    refine (State.buildFrame_locker h hk).trans (congrArg some ?_)
    rw [State.positionLamp]
    cases s.locker? (k + 1) with
    | none => rfl
    | some r =>
      cases hr : r.state
      case holding => simp only [Locker.lamp_holding hr, hr]
      all_goals simp only [Locker.lamp, hr, Lamp.off]
  case station =>
    refine (State.buildFrame_station h).trans (congrArg some ?_)
    simp only [State.stationLamp, State.tripped, Bool.or_eq_true]
  case data =>
    obtain ⟨hred, hgreen, hamber⟩ := frameBits_getElem? hp
    exact ⟨(State.lampData_eq · hred), (State.lampData_eq · hgreen), (State.lampData_eq · hamber)⟩

end Sys2Proof.Machine
end

section
/-! PROOFS. A step runs the command at its front, and every command goes on to a next state that leaves what the part
still has to run (O1, O3). -/

namespace Sys2Proof.Machine

/-- What is still to be run, and how ties are drawn among it: the waiting commands, the owed steps (log 1) and the tie
counter (log 4). -/
def State.agenda (s : State) : List Instr × List (List Instr) × Nat := (s.pending, s.owed, s.ties)

theorem State.agenda_eq_iff (s t : State) :
    t.agenda = s.agenda ↔ t.pending = s.pending ∧ t.owed = s.owed ∧ t.ties = s.ties := by simp [State.agenda]

/-! ### The shared operations leave the agenda -/

section
variable (s : State) (i : Nat)

@[simp] theorem State.agenda_withTime (x : Timebase) : (s.withTime x).agenda = s.agenda := rfl
@[simp] theorem State.agenda_withLatch (x : Latch) : (s.withLatch x).agenda = s.agenda := rfl
@[simp] theorem State.agenda_withKeypad (x : Keypad) : (s.withKeypad x).agenda = s.agenda := rfl
@[simp] theorem State.agenda_withShare (x : Share) : (s.withShare x).agenda = s.agenda := rfl
@[simp] theorem State.agenda_withGrant (x : Grant) : (s.withGrant x).agenda = s.agenda := rfl
@[simp] theorem State.agenda_withLine (x : Line) : (s.withLine x).agenda = s.agenda := rfl
@[simp] theorem State.agenda_withCip (x : Cip) : (s.withCip x).agenda = s.agenda := rfl
@[simp] theorem State.agenda_withPins (x : Pins) : (s.withPins x).agenda = s.agenda := rfl
@[simp] theorem State.agenda_dropEntry (n : Nat) : (s.dropEntry n).agenda = s.agenda := rfl
@[simp] theorem State.agenda_acceptKey (k : Key) : (s.acceptKey k).agenda = s.agenda := rfl
@[simp] theorem State.agenda_recordRival (n : Nat) (p : ScorePair) : (s.recordRival n p).agenda = s.agenda := rfl
@[simp] theorem State.agenda_openEntry (e : BookEntry) : (s.openEntry e).agenda = s.agenda := rfl
@[simp] theorem State.agenda_handOrder (f : OrderFrame) : (s.handOrder f).agenda = s.agenda := rfl
@[simp] theorem State.agenda_notify (e : NoticeEvent) (why : NoticeReason) (n : Nat) :
    (s.notify i e why n).agenda = s.agenda := rfl

@[simp] theorem State.agenda_modLocker (f : Locker → Locker) : (s.modLocker i f).agenda = s.agenda := by
  simp [State.agenda_eq_iff]

@[simp] theorem State.agenda_modPins (f : LockerPins → LockerPins) : (s.modPins i f).agenda = s.agenda := by
  simp [State.agenda_eq_iff]

@[simp] theorem State.agenda_vacate : (s.vacate i).agenda = s.agenda := by simp [State.agenda_eq_iff]

@[simp] theorem State.agenda_retire (why : RetireReason) : (s.retire i why).agenda = s.agenda := by
  simp [State.agenda_eq_iff]

@[simp] theorem State.agenda_strike (why : FaultReason) : (s.strike i why).agenda = s.agenda := by
  simp [State.agenda_eq_iff]

@[simp] theorem State.agenda_takeLatch : s.takeLatch.agenda = s.agenda := by simp [State.agenda_eq_iff]

@[simp] theorem State.agenda_requestLatch : (s.requestLatch i).agenda = s.agenda := by simp [State.agenda_eq_iff]

@[simp] theorem State.agenda_withdrawLatch : (s.withdrawLatch i).agenda = s.agenda := by simp [State.agenda_eq_iff]

@[simp] theorem State.agenda_beginCycle : (s.beginCycle i).agenda = s.agenda := by simp [State.agenda_eq_iff]

@[simp] theorem State.agenda_recompute : (s.recompute i).agenda = s.agenda := by simp [State.agenda_eq_iff]

@[simp] theorem State.agenda_recomputeAll : s.recomputeAll.agenda = s.agenda := by simp [State.agenda_eq_iff]

@[simp] theorem State.agenda_isolate : s.isolate.agenda = s.agenda := by simp [State.agenda_eq_iff]

@[simp] theorem State.agenda_warmRestart : s.warmRestart.agenda = s.agenda := by simp [State.agenda_eq_iff]

/-! ### Lockers (R9 to R24, R29 to R40) -/

@[simp] theorem State.agenda_sample (raw : Nat) : (s.sample i raw).agenda = s.agenda := by
  simp [State.agenda_eq_iff, State.sample]

@[simp] theorem State.agenda_takeOpening : (s.takeOpening i).agenda = s.agenda := by
  cases h : s.locker? i with
  | none => simp [State.takeOpening, h]
  | some r =>
    rcases State.takeOpening_cases h with ⟨-, ho⟩ | ⟨-, ho⟩ | ⟨-, ho⟩ | ⟨-, ho⟩ <;>
      simp [ho, State.completeRelease, State.maintenanceOpening, State.forcedOpening]

@[simp] theorem State.agenda_takeClose : (s.takeClose i).agenda = s.agenda := by
  cases h : s.locker? i with
  | none => simp [State.takeClose, h]
  | some r => rcases State.takeClose_cases h with ⟨-, ho⟩ | ⟨-, ho⟩ <;> simp [ho, State.agenda_eq_iff]

@[simp] theorem State.agenda_trayChange (present : Bool) : (s.trayChange i present).agenda = s.agenda := by
  unfold State.trayChange
  split
  · rfl
  · split
    · dsimp only
      split <;> simp
    · rfl

theorem State.TickSide.agenda {s t : State} (h : s.TickSide t) : t.agenda = s.agenda := by
  obtain ⟨-, -, -, -, -, -, -, -, -, howed, hties, hpending⟩ := (s.tickSide_iff t).mp h
  exact (s.agenda_eq_iff t).mpr ⟨hpending, howed, hties⟩

/-! ### Orders, entries and shares (R25, R79 to R118) -/

@[simp] theorem State.agenda_reassert : (s.reassert i).agenda = s.agenda := by
  rcases s.reassert_cases i with h | ⟨r, o, -, -, h⟩ <;> simp [h]

@[simp] theorem State.agenda_claimFor (e : BookEntry) : (s.claimFor e i).agenda = s.agenda := by simp [State.claimFor]

@[simp] theorem State.agenda_yieldOrder (n : Nat) : (s.yieldOrder i n).agenda = s.agenda := by simp [State.yieldOrder]

@[simp] theorem State.agenda_meetClaim (rival : ScorePair) (loaded : Bool) :
    (s.meetClaim i rival loaded).agenda = s.agenda := by
  unfold State.meetClaim
  repeat' split
  all_goals simp

@[simp] theorem State.agenda_matchRequest (order digits : Nat) : (s.matchRequest order digits).1.agenda = s.agenda := by
  unfold State.matchRequest
  repeat' split
  all_goals simp

@[simp] theorem State.agenda_judgeEntry (digits : List Nat) (overlong : Bool) :
    (s.judgeEntry digits overlong).agenda = s.agenda := by
  unfold State.judgeEntry
  repeat' split
  all_goals simp

@[simp] theorem State.agenda_demandCompleted : s.demandCompleted.agenda = s.agenda := by
  rcases s.demandCompleted_cases with ⟨-, -, -, h⟩ | ⟨-, h⟩ <;> simp [h]

/-! ### Replies, commands and the loss of step (R129, R142, R147 to R159) -/

/-- What each visit leaves stands after all of them. -/
theorem State.agenda_foldl {α : Type} {f : State → α → State} (hf : ∀ t a, (f t a).agenda = t.agenda) (l : List α) :
    (l.foldl f s).agenda = s.agenda := by
  induction l generalizing s with
  | nil => rfl
  | cons a l ih => rw [List.foldl_cons, ih, hf]

@[simp] theorem State.agenda_reportReply (f : ReplyFrame) : (s.reportReply f).agenda = s.agenda := by
  rcases s.reportReply_cases f with h | ⟨-, -, h⟩ <;> simp [h]

@[simp] theorem State.agenda_handReply (f : ReplyFrame) : (s.handReply f).agenda = s.agenda := by
  rcases s.handReply_cases f with ⟨-, -, h⟩ | ⟨-, h⟩ <;> simp [h]

@[simp] theorem State.agenda_answer (c : CommandFrame) (a : Answer) : (s.answer c a).agenda = s.agenda := by
  unfold State.answer
  split <;> simp

@[simp] theorem State.agenda_answerNow (c : CommandFrame) (f : ReplyFrame) : (s.answerNow c f).agenda = s.agenda := by
  unfold State.answerNow
  split <;> simp

@[simp] theorem State.agenda_fallOutOfStep : s.fallOutOfStep.agenda = s.agenda := by
  rw [State.fallOutOfStep, State.agenda_foldl _ State.agenda_reportReply]
  simp

@[simp] theorem State.agenda_enterListenOnly : s.enterListenOnly.agenda = s.agenda := by
  rw [State.enterListenOnly, State.agenda_foldl _ State.agenda_reportReply]
  simp

@[simp] theorem State.agenda_takeClass : s.takeClass.agenda = s.agenda := by
  unfold State.takeClass
  split
  · rfl
  · split
    · dsimp only
      repeat' split
      all_goals simp
    · rfl

end

/-! ### The rules of the verbs (R149 to R159) -/

/-- R149: a verb leaves the agenda where its rule does. -/
theorem State.agenda_takeVerb (s : State) (isVerb : CommandFrame → Bool) {rule : CommandFrame → State → State × Answer}
    (hr : ∀ c u, (rule c u).1.agenda = u.agenda) : (s.takeVerb isVerb rule).agenda = s.agenda := by
  rcases s.takeVerb_cases isVerb rule with h | ⟨c, rest, -, -, -, h⟩ <;> simp [h, hr]

theorem agenda_inService {rule : CommandFrame → State → State × Answer} (hr : ∀ c u, (rule c u).1.agenda = u.agenda)
    (c : CommandFrame) (u : State) : (inService rule c u).1.agenda = u.agenda := by
  unfold inService
  split
  · rfl
  · exact hr c u

theorem agenda_lockerRule {rule : Nat → Locker → State → State × Answer}
    (hr : ∀ i r u, (rule i r u).1.agenda = u.agenda) (c : CommandFrame) (u : State) :
    (lockerRule rule c u).1.agenda = u.agenda := by
  unfold lockerRule
  split
  · rfl
  · split
    · exact hr ..
    · rfl

theorem agenda_loadRule (c : CommandFrame) (u : State) : (loadRule c u).1.agenda = u.agenda := by
  unfold loadRule
  repeat' split
  all_goals simp

theorem agenda_voidRule (c : CommandFrame) (u : State) : (voidRule c u).1.agenda = u.agenda := by
  unfold voidRule
  repeat' split
  all_goals simp

theorem agenda_clearRule (i : Nat) (r : Locker) (u : State) : (clearRule i r u).1.agenda = u.agenda := by
  unfold clearRule
  split
  · dsimp only
    split <;> simp
  · rfl

theorem agenda_blockRule (i : Nat) (r : Locker) (u : State) : (blockRule i r u).1.agenda = u.agenda := by
  unfold blockRule
  split <;> simp

theorem agenda_unblockRule (i : Nat) (r : Locker) (u : State) : (unblockRule i r u).1.agenda = u.agenda := by
  unfold unblockRule
  split <;> simp

theorem agenda_queryRule (c : CommandFrame) (u : State) : (queryRule c u).1.agenda = u.agenda := by
  unfold queryRule
  split <;> rfl

theorem agenda_lampTestRule (c : CommandFrame) (u : State) : (lampTestRule c u).1.agenda = u.agenda := by
  unfold lampTestRule
  split <;> rfl

/-! ### The rows -/

/-- Log 29: every arm of the dispatch gives its command a meaning that answers a next state. -/
theorem exec_eq_next (c : Instr) (s : State) : ∃ t, exec c s = .next t := by
  cases c <;> exact ⟨_, rfl⟩

theorem agenda_execShareTick {s t : State} (h : execShareTick s = .next t) : t.agenda = s.agenda := by
  rw [execShareTick_eq] at h
  obtain rfl := Host.Outcome.next.inj h
  simp [State.agenda_eq_iff]

theorem agenda_execSecondTick {s t : State} (h : execSecondTick s = .next t) : t.agenda = s.agenda := by
  rw [execSecondTick_eq] at h
  obtain rfl := Host.Outcome.next.inj h
  rw [State.agenda_recomputeAll]
  exact s.tickSide_secondChecked.agenda

theorem agenda_execMinuteTick {s t : State} (h : execMinuteTick s = .next t) : t.agenda = s.agenda := by
  obtain rfl := Host.Outcome.next.inj h
  rw [State.agenda_recomputeAll]
  have hclock : s.TickSide (s.withTime s.time.minuteTick) := rfl
  exact (State.forEach_keeps hclock fun _ i _ hu => hu.judgeMinute i).agenda

/-- R147: the superseded commands are answered one by one, and then the command joins the inbox or is answered. -/
theorem agenda_execCommand {s t : State} {src dest verb : Nat} {ops : List Nat}
    (h : execCommand src dest verb ops s = .next t) : t.agenda = s.agenda := by
  obtain rfl := Host.Outcome.next.inj h
  have hgone (gone : List CommandFrame) (x : Cip) :
      (gone.foldl (fun u c => u.answerNow c (u.supersededReply c)) (s.withCip x)).agenda = s.agenda :=
    State.agenda_foldl _ (fun u c => u.agenda_answerNow c _) gone
  split
  · rfl
  · dsimp only
    split
    · exact hgone _ _
    · rw [State.agenda_answerNow]
      exact hgone _ _

/-- Log 1, log 4: no row but a power-on reset touches the waiting commands, the owed steps or the tie counter. -/
theorem agenda_exec {c : Instr} {s t : State} (hp : ∀ p, c ≠ .powerOnReset p) (h : exec c s = .next t) :
    t.agenda = s.agenda := by
  cases c
  case powerOnReset p => exact absurd rfl (hp p)
  case shareTick => exact agenda_execShareTick h
  case secondTick => exact agenda_execSecondTick h
  case minuteTick => exact agenda_execMinuteTick h
  case command => exact agenda_execCommand h
  all_goals obtain rfl := Host.Outcome.next.inj h
  case warmRestart => exact s.agenda_warmRestart
  case trayAppeared i => exact s.agenda_trayChange i true
  case trayRemoved i => exact s.agenda_trayChange i false
  case load => exact s.agenda_takeVerb _ (agenda_inService agenda_loadRule)
  case void => exact s.agenda_takeVerb _ (agenda_inService agenda_voidRule)
  case clear => exact s.agenda_takeVerb _ (agenda_inService (agenda_lockerRule agenda_clearRule))
  case block => exact s.agenda_takeVerb _ (agenda_inService (agenda_lockerRule agenda_blockRule))
  case unblock => exact s.agenda_takeVerb _ (agenda_inService (agenda_lockerRule agenda_unblockRule))
  case query => exact s.agenda_takeVerb _ agenda_queryRule
  case queryBank | unknownVerb => exact s.agenda_takeVerb _ fun _ _ => rfl
  case lampTest => exact s.agenda_takeVerb _ agenda_lampTestRule
  case restart =>
    refine s.agenda_takeVerb _ fun c u => ?_
    dsimp only
    split <;> simp
  case classWrite => exact s.agenda_takeClass
  case flashPhase | lampFrame | lampTestEnd | bid | resign | shed | notice | reply | lineFaultCleared | keyReject
      | keysReleased | strikeAgedOut | lockoutEnd | beeperPatternEnd => exact rfl
  case feederTripAsserted | supplyLowAsserted => split <;> rfl
  case jabber | digitKey | clearKey | enterKey =>
    split
    · dsimp only
      split <;> simp
    · rfl
  case windowEnd | collision =>
    split
    · rfl
    · dsimp only
      repeat' split
      all_goals simp
  case firstSweepReading =>
    split
    · rfl
    · split
      · rfl
      · dsimp only
        split <;> simp
  case transmissionComplete =>
    split
    · split <;> simp
    · dsimp only
      repeat' split
      all_goals simp
  -- The rows that are left put shared operations behind a guard on a block or a record.
  all_goals
    repeat' split
    all_goals simp

/-! ### The obligations -/

/-- Settles O1: on a queue that is not empty, a step is its second branch. -/
theorem stepRunsFrontCommand : Obligations.StepRunsFrontCommand := by
  intro c rest s hs
  simp only [step, hs]

/-- Settles O3: any row leaves the agenda as it stood, but for the owed steps that a power-on reset clears. -/
theorem everyCommandCompletes : Obligations.EveryCommandCompletes := by
  intro c s
  obtain ⟨t, ht⟩ := exec_eq_next c s
  refine ⟨t, ht, ?_⟩
  by_cases hp : ∃ p, c = .powerOnReset p
  · obtain ⟨p, rfl⟩ := hp
    obtain rfl := Host.Outcome.next.inj ht
    exact ⟨rfl, rfl, fun hne => absurd rfl (hne p)⟩
  · obtain ⟨hpending, howed, hties⟩ := (s.agenda_eq_iff t).mp (agenda_exec (fun p hc => hp ⟨p, hc⟩) ht)
    exact ⟨hpending, hties, fun _ => howed⟩

end Sys2Proof.Machine
end
